-- ==== Sys2Proof/Word.lean ====
section
/-! DEFINITION. The index and word types of the GX164 model, and the two accessors of a fixed-length table.

Link bytes, slot words and flag masks are bit vectors, because the manual shifts and masks them. Audio samples,
coefficients, energies and counts are exact integers (00_scope 4.5, "Every quantity in the part is an integer"). -/

namespace Sys2Proof

/-- One byte on the control link. -/
abbrev Byte := BitVec 8

/-- Microphone lane `m`, 0..15 (00_scope 4.6). -/
abbrev MicLane := Fin 16

/-- Reference lane `r`, 0..3 (00_scope 4.6). -/
abbrev RefLane := Fin 4

/-- Slot 0..3 of one microphone's checkpoint ring (00_scope 4.6). -/
abbrev SlotIndex := Fin 4

/-- Segment index 0..3071 of the pool (00_scope 4.6). -/
abbrev SegIndex := Fin 3072

/-- Input line 0..7 (00_scope 4.6). -/
abbrev InLineIndex := Fin 8

/-- Output line 0..3 (00_scope 4.6). -/
abbrev OutLineIndex := Fin 4

/-- The sixteen microphone lanes in ascending order. -/
def allMics : List MicLane := [0, 1, 2, 3, 4, 5, 6, 7, 8, 9, 10, 11, 12, 13, 14, 15]

/-- The four reference lanes in ascending order. -/
def allRefs : List RefLane := [0, 1, 2, 3]

/-- The four slots of a ring in ascending order. -/
def allSlots : List SlotIndex := [0, 1, 2, 3]

/-- The eight input lines in ascending order. -/
def allInLines : List InLineIndex := [0, 1, 2, 3, 4, 5, 6, 7]

/-- The four output lines in ascending order. -/
def allOutLines : List OutLineIndex := [0, 1, 2, 3]

/-- The 64 paths as (microphone, reference) pairs in ascending path number p = 4m + r (R71). -/
def allPaths : List (MicLane × RefLane) := allMics.flatMap fun m => allRefs.map fun r => (m, r)

/-- A table of fixed length with one entry replaced. -/
def tablePut {α : Type} {n : Nat} (v : Vector α n) (i : Fin n) (a : α) : Vector α n := v.set i.val a i.isLt

/-- A table of fixed length with a function applied to every entry. -/
def tableMap {α β : Type} {n : Nat} (f : α → β) (v : Vector α n) : Vector β n := ⟨⟨v.toList.map f⟩, by simp⟩

/-- The table of length `n` whose entry `i` is `f i`. -/
def tabulate {α : Type} (n : Nat) (f : Nat → α) : Vector α n := ⟨⟨(List.range n).map f⟩, by simp⟩

end Sys2Proof
end

