-- ==== Sys2Proof/Config.lean ====
section
/-! DEFINITION. What the manual fixes for every GX164, and the values it leaves open.

The fixed numbers are R60 (pool), R66 (capacity), R93 (queue), R12 (history), R6 (FIFO), R176 (report queue),
R98 and R127 (timeouts). The three opaque constants are the model's free values: nothing constrains them, so what is
proved holds for every value they could take. -/

namespace Sys2Proof

/-- FREE VALUE. `Config.frameEndChoice n` is the n-th choice of which piece of ready frame-end work is taken next,
where the manual says that either may be taken first (assumption 3). -/
opaque Config.frameEndChoice : Nat → Nat

/-- FREE VALUE. `Config.openValue n` is the n-th value of a report or reply byte field for which the manual states
no value (assumption 6). -/
opaque Config.openValue : Nat → Nat

/-- FREE VALUE. `Config.lossDetail n k` is detail byte `k` of a REF_LOST fault raised when `n` free values had been drawn:
the manual states no detail bytes for that kind (assumption 39). -/
opaque Config.lossDetail : Nat → Nat → Nat

namespace Config

/-- Segments in the pool (R60). -/
def poolSize : Nat := 3072

/-- Engine capacity: the most segments ACTIVE at once (R66). -/
def capacity : Nat := 2048

/-- Coefficients per segment (R60). -/
def segmentTaps : Nat := 64

/-- Longest chain (R67). -/
def maxChain : Nat := 80

/-- Greatest lead delay (R69). -/
def maxLead : Nat := 2047

/-- Samples per frame (00_scope 4.2). -/
def frameSamples : Nat := 128

/-- Sample sets the reference FIFO holds (R6). -/
def fifoDepth : Nat := 512

/-- Samples a history ring holds (R12). -/
def historyDepth : Nat := 8192

/-- Silence count at which the reference port becomes lost (R9). -/
def lossCount : Nat := 4

/-- Reports the report queue holds (R176). -/
def reportDepth : Nat := 32

/-- Largest frame payload (R172). -/
def maxPayload : Nat := 1024

/-- Wait count at which a blocked head is removed (R98). -/
def waitLimit : Nat := 125

/-- Idle count at which an image session times out (R127). -/
def idleLimit : Nat := 250

/-- The energy floor of tail evaluation (R87). -/
def energyFloor : Nat := 65536

/-- Saturation bound of the 16-bit counts (R8, R38, R104, R179). -/
def countMax : Nat := 65535

end Config

end Sys2Proof
end

