-- ==== Sys2Proof/Syntax.lean ====
section
/-! DEFINITION. The commands of the GX164: one constructor for each row of spec/opcode_table.json, in the table's order.

Rows that are requests carry the TAG of their link frame and the fields of their payload at the widths the manual
gives them (Table 11-3 and each request's own rule), so every value a host can send is a term. -/

namespace Sys2Proof

/-- A link frame without its SYNC, FLAGS, LEN and CRC fields, which the link forms (Table 11-1). -/
structure Frame where
  /-- KIND byte. -/
  kind : Byte
  /-- TAG byte. -/
  tag : Byte
  /-- The LEN payload bytes. -/
  payload : List Byte
  deriving DecidableEq, Repr

/-- The commands and events of the part. -/
inductive Instr where
  /-- POWER_ON (R161). -/
  | powerOn
  /-- RESETN: the RESETN pin is asserted (R161). -/
  | resetn
  /-- CAPTURE_SAMPLE (R3): the 16 slots of 32 bits of the capture port, and the levels of pins LIN7..LIN0. -/
  | captureSample (slots : Vector (BitVec 32) 16) (pins : BitVec 8)
  /-- FRAME_END (R4). -/
  | frameEnd
  /-- REFERENCE_ARRIVAL (R6): the 4 slots of 32 bits of the reference port. -/
  | referenceArrival (slots : Vector (BitVec 32) 4)
  /-- REF_LOST (R9). -/
  | refLost
  /-- EVALUATION_FRAME_END (R86). -/
  | evaluationFrameEnd
  /-- GRANT (R95). -/
  | grant
  /-- REQUEST_TIMEOUT (R98). -/
  | requestTimeout
  /-- SESSION_TIMEOUT (R135). -/
  | sessionTimeout
  /-- COMMIT_APPLICATION (R158). -/
  | commitApplication
  /-- HOLD_SPAN_END of microphone `m` (R164). -/
  | holdSpanEnd (m : MicLane)
  /-- DIVERGENCE_EVENT of microphone `m` (R52). -/
  | divergenceEvent (m : MicLane)
  /-- RESTART_COMPLETION (R160). -/
  | restartCompletion
  /-- INBOUND_FRAME_DISCARDED (R172): the bytes of the WRITE transaction after its direction byte. -/
  | inboundFrameDiscarded (bytes : List Byte)
  /-- UNKNOWN_KIND (R172): a well-formed frame of a KIND that is no request. -/
  | unknownKind (kind tag : Byte) (payload : List Byte)
  /-- READ (R173): a READ transaction in which `clocked` bytes are clocked out after the direction byte. -/
  | read (clocked : Nat)
  /-- IGNORED_TRANSACTION (R170): the complete bytes the host sends. -/
  | ignoredTransaction (sent : List Byte)
  /-- IDENT (R175). -/
  | ident (tag : Byte)
  /-- RESTART (R160). -/
  | restart (tag : Byte)
  /-- ENGINE.RUN (R150). -/
  | engineRun (tag : Byte)
  /-- ENGINE.PARK (R151). -/
  | enginePark (tag : Byte)
  /-- LAYOUT.SET (R152, R153). -/
  | layoutSet (tag micLanes refLanes : Byte) (mask : BitVec 64) (initialSegs : Byte)
  /-- LAYOUT.GET (R154). -/
  | layoutGet (tag : Byte)
  /-- PARAM.SET (R155). -/
  | paramSet (tag id : Byte) (value : BitVec 32)
  /-- PARAM.GET (R156). -/
  | paramGet (tag selector : Byte)
  /-- PARAM.COMMIT (R157). -/
  | paramCommit (tag latency : Byte)
  /-- TRIM (R15). -/
  | trim (tag : Byte) (codes : Vector Byte 16)
  /-- PATH.LIMITS (R74). -/
  | pathLimits (tag mic ref minSegs maxSegs flags : Byte) (lead : BitVec 16)
  /-- MIC.FREEZE (R57). -/
  | micFreeze (tag : Byte) (mask : BitVec 16)
  /-- MIC.THAW (R57). -/
  | micThaw (tag : Byte) (mask : BitVec 16)
  /-- MIC.MUTE (R145). -/
  | micMute (tag : Byte) (mask : BitVec 16) (action : Byte)
  /-- MIC.OUTPUT (R144). -/
  | micOutput (tag mic source : Byte)
  /-- MIC.RESET (R159). -/
  | micReset (tag mic : Byte)
  /-- CKPT.PUSH (R109). -/
  | ckptPush (tag mic : Byte)
  /-- CKPT.HOLD (R121). -/
  | ckptHold (tag mic slot : Byte)
  /-- CKPT.RELEASE (R121). -/
  | ckptRelease (tag mic slot : Byte)
  /-- CKPT.DISCARD (R122). -/
  | ckptDiscard (tag mic slot : Byte)
  /-- CKPT.RECALL (R120). -/
  | ckptRecall (tag mic slot : Byte)
  /-- IMAGE.EXPORT (R129). -/
  | imageExport (tag mic slot : Byte)
  /-- IMAGE.READ (R130). -/
  | imageRead (tag : Byte)
  /-- IMAGE.IMPORT (R131): `header` is the image header of Table 7-1, as sent. -/
  | imageImport (tag mic slot : Byte) (header : List Byte)
  /-- IMAGE.WRITE (R133): a chunk of Table 7-2, as sent. -/
  | imageWrite (tag : Byte) (index : BitVec 16) (data : List Byte)
  /-- IMAGE.CLOSE (R135). -/
  | imageClose (tag : Byte)
  /-- QUERY.MIC (R58). -/
  | queryMic (tag mic : Byte)
  /-- QUERY.POOL (R81). -/
  | queryPool (tag : Byte) (segment : Option (BitVec 16))
  /-- QUERY.PATH (R82). -/
  | queryPath (tag mic ref : Byte)
  /-- FAULT.READ (R182). -/
  | faultRead (tag : Byte)
  /-- FAULT.CLEAR (R181). -/
  | faultClear (tag : Byte) (kinds mics : BitVec 16)
  /-- FAULT.SET (R180). -/
  | faultSet (tag kind maskValue severity : Byte)
  /-- NOTIFY.SET (R178). -/
  | notifySet (tag : Byte) (mask : BitVec 16)
  /-- LINE.SET (R166). -/
  | lineSet (tag kind line flags code argument : Byte) (mask : BitVec 16)
  /-- LINE.PULSE (R167). -/
  | linePulse (tag line : Byte)
  /-- LINE.GET (R169). -/
  | lineGet (tag : Byte)
  deriving DecidableEq, Repr

end Sys2Proof
end

