-- ==== Sys2Proof/Machine/State.lean ====
section
/-! DEFINITION. The state of the GX164, whole, and its value after reset (R161).

Every register, count, flag, queue and pin the manual names is a field, grouped by the block that owns it (00_scope
section 2, Figure 1). A quantity the manual itself computes from others (the window L, the enable flag of a path, the
device counts, the chunk count, ATTN) is no field but a function in Machine/Ops.lean, so that it cannot disagree. -/

namespace Sys2Proof.Machine

/-! ## Names the manual gives -/

/-- Engine state (R149). -/
inductive EngineState where | parked | running
  deriving DecidableEq, Repr

/-- Talk state (R48). -/
inductive TalkState where | quiet | far | near | double
  deriving DecidableEq, Repr

/-- Adaptation mode (R56). -/
inductive Mode where | live | frozen | halted
  deriving DecidableEq, Repr

/-- Rounding mode (R24). -/
inductive RoundMode where | nearestEven | floor | towardZero
  deriving DecidableEq, Repr

/-- Output source of a microphone (R144). -/
inductive Source where | processed | residual | direct
  deriving DecidableEq, Repr

/-- Tag of a checkpoint slot (Table 6-1). -/
inductive SlotTag where | empty | valid | held | filling
  deriving DecidableEq, Repr

/-- A slot command awaiting the next frame end (R123). -/
inductive SlotCommand where | hold | release | discard
  deriving DecidableEq, Repr

/-- Kind of a growth request (R93). -/
inductive GrowKind where | tail | head
  deriving DecidableEq, Repr

/-- Kind of an open image session (R126). -/
inductive SessionKind where | exporting | importing
  deriving DecidableEq, Repr

/-- Edge mode of an input line (R162). -/
inductive EdgeMode where | level | rising | falling | both
  deriving DecidableEq, Repr

/-- Action of an input line (R162). -/
inductive LineAction where
  | none | holdLevel | muteLevel | holdSpan | muteToggle | recall | push | commit | reportOnly
  deriving DecidableEq, Repr

/-- Source of an output line (R168). -/
inductive OutSource where
  | farAny | nearAny | doubleAny | haltedAny | mutedAny | settledAll | refLost | rollbackPulse | fixedLow | fixedHigh
  deriving DecidableEq, Repr

/-- Where a staged set came from (R149). -/
inductive CommitOrigin where | paramCommit | lineAction
  deriving DecidableEq, Repr

/-- Severity of a fault kind (R179). -/
inductive Severity where | advisory | halting
  deriving DecidableEq, Repr

/-- The eleven fault kinds, in the order of their codes (Table 11-5). -/
inductive FaultKind where
  | coefSat | estSat | errSat | divergence | ringFull | imageReject | poolExhausted | refSlip | refLost | linkCrc
  | linkFormat
  deriving DecidableEq, Repr

/-- The ten report classes, in the order of their codes (Table 11-4). -/
inductive ReportClass where
  | talk | settle | ckpt | rollback | tail | fault | reference | line | commit | image
  deriving DecidableEq, Repr

/-- Reply status (Table 11-2). -/
inductive Status where | ok | clamped | refusedState | refusedRange | refusedBusy | unknownKind | noRoom
  deriving DecidableEq, Repr

/-! ## The Segment Pool (R60) and the path records (R70) -/

/-- State and owner of a segment, which change together (R60). -/
inductive Owner where
  /-- FREE: the segment stands in the free list. -/
  | free
  /-- ACTIVE: one position of the chain of path (m, r). -/
  | active (m : MicLane) (r : RefLane) (position : Nat)
  /-- CHECKPOINT: one position of the entry for lane r in one slot of microphone m. -/
  | checkpoint (m : MicLane) (slot : SlotIndex) (r : RefLane) (position : Nat)
  deriving DecidableEq, Repr

/-- One segment of the pool (R60). -/
structure Segment where
  /-- State and owner. -/
  owner : Owner
  /-- The 64 coefficients, signed 24-bit. -/
  coefs : Vector Int 64
  /-- Energy field, 0..2^36 (R36). -/
  energy : Nat
  deriving DecidableEq, Repr

/-- A PATH.LIMITS accepted and not yet taken (R75). -/
structure PendingLimits where
  /-- New `min_segs`. -/
  minSegs : Nat
  /-- New `max_segs`. -/
  maxSegs : Nat
  /-- New pinned flag. -/
  pinned : Bool
  /-- New lead delay, where the request carried one. -/
  lead : Option Nat
  deriving DecidableEq, Repr

/-- The record of one path (R70), with the engine's gain and gate (R29, R31) and the Tail Manager's per-path counts
(R84). The enable flag and `initial_segs` come from the layout. -/
structure Path where
  /-- Shortest chain the Tail Manager keeps. -/
  minSegs : Nat
  /-- Longest chain the path may hold. -/
  maxSegs : Nat
  /-- Pinned flag. -/
  pinned : Bool
  /-- Lead delay D. -/
  lead : Nat
  /-- The chain, position 0 first (R67). -/
  chain : List SegIndex
  /-- Pending limits. -/
  limits : Option PendingLimits
  /-- Gain G for the current frame (R29). -/
  gain : Nat
  /-- Adapt gate of the current frame (R31). -/
  gate : Bool
  /-- Open-gate count (R85). -/
  openGates : Nat
  /-- Grant flag (R84). -/
  granted : Bool
  deriving DecidableEq, Repr

/-- A growth request (R93). -/
structure GrowRequest where
  /-- Microphone of the path. -/
  m : MicLane
  /-- Reference of the path. -/
  r : RefLane
  /-- Append or prepend. -/
  kind : GrowKind
  /-- Frame ends stood blocked at the head. -/
  waited : Nat
  deriving DecidableEq, Repr

/-! ## The reference port (R6 to R13) -/

/-- State of the reference port as a whole (R6, R8, R9). -/
structure RefPort where
  /-- The FIFO of sample sets, oldest first; a set lists the configured lanes' samples in lane order. -/
  fifo : List (List Int)
  /-- Loss state. -/
  lost : Bool
  /-- Silence count 0..4. -/
  silence : Nat
  /-- Arrival mark of the current frame. -/
  arrived : Bool
  /-- Underrun tally of the current frame. -/
  underrunTally : Nat
  /-- Overrun tally of the current frame. -/
  overrunTally : Nat
  /-- Cumulative underrun count. -/
  underruns : Nat
  /-- Cumulative overrun count. -/
  overruns : Nat
  deriving DecidableEq, Repr

/-- State of one reference lane (R12, R26, R27). -/
structure RefRecord where
  /-- History ring, newest sample first. -/
  ring : Vector Int 8192
  /-- Fill count 0..8192. -/
  fill : Nat
  /-- Frame level m_r of the last frame. -/
  level : Nat
  /-- Smoothed mean square S_r. -/
  power : Nat
  /-- Sum of the squares consumed in the frame in progress (R26). -/
  sumSquares : Nat
  deriving DecidableEq, Repr

/-! ## Per-microphone records -/

/-- The three saturation flags of a microphone (R38, R39). -/
structure SatFlags where
  /-- COEF_SAT. -/
  coef : Bool
  /-- EST_SAT. -/
  est : Bool
  /-- ERR_SAT. -/
  err : Bool
  deriving DecidableEq, Repr

/-- A saturation mark of the frame in progress (R38). -/
structure Mark where
  /-- The mark. -/
  raised : Bool
  /-- Tally of clamped values, 0..65535. -/
  tally : Nat
  /-- Sample position of the first clamp, 255 for a rescale alone; 255 while the mark is clear (assumption 61). -/
  position : Nat
  /-- Reference lane of the first clamped coefficient, 255 otherwise; 255 while the mark is clear (assumption 61). -/
  lane : Nat
  deriving DecidableEq, Repr

/-- The Canceller Engine's state of one microphone (R35, R38, R39). -/
structure EngineRecord where
  /-- Ed of the last frame. -/
  ed : Nat
  /-- Ey of the last frame. -/
  ey : Nat
  /-- Ee of the last frame. -/
  ee : Nat
  /-- Sum of d squared in the frame in progress. -/
  sumD : Nat
  /-- Sum of y squared in the frame in progress. -/
  sumY : Nat
  /-- Sum of e squared in the frame in progress. -/
  sumE : Nat
  /-- COEF_SAT mark. -/
  coefMark : Mark
  /-- EST_SAT mark. -/
  estMark : Mark
  /-- ERR_SAT mark. -/
  errMark : Mark
  /-- Sticky flags. -/
  sticky : SatFlags
  deriving DecidableEq, Repr

/-- The Talk Detector's record of one microphone (Table 3-1), with the level-hold cause handed to it (R164). -/
structure TalkRecord where
  /-- Talk state governing the current frame. -/
  talk : TalkState
  /-- Near hangover. -/
  nearHang : Nat
  /-- Far hangover. -/
  farHang : Nat
  /-- Smoothed energy Ed_s. -/
  edSmooth : Nat
  /-- Smoothed energy Ee_s. -/
  eeSmooth : Nat
  /-- ERLE index 0..40. -/
  erle : Nat
  /-- Settled flag. -/
  settled : Bool
  /-- Divergence count. -/
  divCount : Nat
  /-- Host freeze flag, current. -/
  freeze : Bool
  /-- Host freeze flag, pending. -/
  freezePending : Bool
  /-- Level-hold cause, as the last frame end handed it over (R54, R164). -/
  levelHold : Bool
  /-- Halt flag. -/
  halt : Bool
  /-- Adaptation mode governing the current frame. -/
  mode : Mode
  deriving DecidableEq, Repr

/-- The Residual Suppressor's record of one microphone (R138). -/
structure OutRecord where
  /-- Suppression gain g, Q15. -/
  gain : Nat
  /-- Noise floor NF. -/
  floor : Nat
  /-- Comfort-noise amplitude A. -/
  amplitude : Nat
  /-- Noise generator state. -/
  generator : BitVec 16
  /-- Host mute flag, current. -/
  mute : Bool
  /-- Host mute flag, pending. -/
  mutePending : Bool
  /-- Line mute cause. -/
  lineMute : Bool
  /-- Output source, current. -/
  source : Source
  /-- Output source, pending. -/
  sourcePending : Source
  deriving DecidableEq, Repr

/-- One path entry of a checkpoint record or an image (R105, R126). -/
structure PathEntry where
  /-- Reference lane. -/
  r : RefLane
  /-- Lead delay. -/
  lead : Nat
  /-- CHECKPOINT segments, position 0 first. -/
  chain : List SegIndex
  deriving DecidableEq, Repr

/-- A checkpoint record (R105). -/
structure CkptRecord where
  /-- Sequence number. -/
  sequence : BitVec 32
  /-- Frame number. -/
  frame : BitVec 32
  /-- Trim step. -/
  trim : Nat
  /-- ERLE index. -/
  erle : Nat
  /-- Settled flag. -/
  settled : Bool
  /-- Sticky flags. -/
  sticky : SatFlags
  /-- Rollback count 0..255. -/
  rollbacks : Nat
  /-- Path entries in ascending reference lane. -/
  entries : List PathEntry
  deriving DecidableEq, Repr

/-- One slot of a ring (R104). The segments a FILLING slot owns stand in the session's entries. -/
structure Slot where
  /-- Tag. -/
  tag : SlotTag
  /-- Exporting mark. -/
  exporting : Bool
  /-- The record of a VALID or HELD slot. -/
  record : Option CkptRecord
  /-- Pending slot command. -/
  command : Option SlotCommand
  deriving DecidableEq, Repr

/-- The checkpoint ring of one microphone (R104). -/
structure Ring where
  /-- The four slots. -/
  slots : Vector Slot 4
  /-- Top pointer. -/
  top : SlotIndex
  /-- Push interval count. -/
  interval : Nat
  /-- Pending push. -/
  pushPending : Bool
  /-- Pending recall. -/
  recallPending : Option SlotIndex
  /-- Restored-flag faults. -/
  restored : SatFlags
  deriving DecidableEq, Repr

/-- Everything the part keeps for one microphone lane. -/
structure Mic where
  /-- Current trim step (R14). -/
  trim : Nat
  /-- Pending trim step (R14). -/
  trimPending : Nat
  /-- Canceller Engine. -/
  engine : EngineRecord
  /-- Talk Detector. -/
  talk : TalkRecord
  /-- Residual Suppressor. -/
  out : OutRecord
  /-- Checkpoint ring. -/
  ring : Ring
  /-- Hold-span countdown 0..255 (R162). -/
  holdSpan : Nat
  /-- Set of halting kinds, bit k for kind k (R179). -/
  haltKinds : BitVec 16
  /-- Pending reset (R149). -/
  resetPending : Bool
  deriving DecidableEq, Repr

/-! ## Image session (R126) -/

/-- The open image session. `trim` to `sticky` are the fields of an import's header. -/
structure Session where
  /-- EXPORT or IMPORT. -/
  kind : SessionKind
  /-- Microphone. -/
  m : MicLane
  /-- Slot. -/
  slot : SlotIndex
  /-- The header's entries in header order, with the segments read or reserved. -/
  entries : List PathEntry
  /-- Index of the next chunk. -/
  cursor : Nat
  /-- Idle count. -/
  idle : Nat
  /-- Header trim step. -/
  trim : Nat
  /-- Header ERLE index. -/
  erle : Nat
  /-- Header settled flag. -/
  settled : Bool
  /-- Header sticky flags. -/
  sticky : SatFlags
  deriving DecidableEq, Repr

/-! ## Parameter Bank (R149) -/

/-- The layout (R149). -/
structure Layout where
  /-- Microphone lane count 1..16. -/
  mics : Nat
  /-- Reference lane count 1..4. -/
  refs : Nat
  /-- Path enable mask, bit p for path p. -/
  mask : BitVec 64
  /-- `initial_segs` 1..80. -/
  initialSegs : Nat
  deriving DecidableEq, Repr

/-- One tuning set (Table 9-1). -/
structure Params where
  /-- 0 STEP. -/
  step : Nat
  /-- 1 REG. -/
  reg : Nat
  /-- 2 FAR_LEVEL. -/
  farLevel : Nat
  /-- 3 NEAR_RATIO. -/
  nearRatio : Nat
  /-- 4 COUPLING. -/
  coupling : Nat
  /-- 5 NEAR_HANG. -/
  nearHang : Nat
  /-- 6 FAR_HANG. -/
  farHang : Nat
  /-- 7 SETTLE_INDEX. -/
  settleIndex : Nat
  /-- 8 CKPT_INDEX. -/
  ckptIndex : Nat
  /-- 9 CKPT_INTERVAL. -/
  ckptInterval : Nat
  /-- 10 DIV_FRAMES. -/
  divFrames : Nat
  /-- 11 REBAL_FRAMES. -/
  rebalFrames : Nat
  /-- 12 ADAPT_MIN. -/
  adaptMin : Nat
  /-- 13 TAIL_SHIFT. -/
  tailShift : Nat
  /-- 14 GROW_SHIFT. -/
  growShift : Nat
  /-- 15 NLP_ATTEN. -/
  nlpAtten : Nat
  /-- 16 NOISE_FILL. -/
  noiseFill : Bool
  /-- 17 NOISE_TAPS. -/
  noiseTaps : BitVec 16
  /-- 18 ROUNDING. -/
  rounding : RoundMode
  /-- 19 POOL_LOW. -/
  poolLow : Nat
  deriving DecidableEq, Repr

/-- A committed set awaiting application, with what its COMMIT report carries (R149, R158). -/
structure Staged where
  /-- The set. -/
  params : Params
  /-- Commit origin. -/
  origin : CommitOrigin
  /-- The latency staged. -/
  latency : Nat
  /-- The cross-clamp byte of R157; 0 for a line action. -/
  clampByte : Nat
  deriving DecidableEq, Repr

/-! ## Line Controller (R162, R168) -/

/-- The entry of an input line (R162). -/
structure InEntry where
  /-- Invert. -/
  invert : Bool
  /-- Edge mode. -/
  edge : EdgeMode
  /-- Action. -/
  action : LineAction
  /-- Argument. -/
  argument : Nat
  /-- Microphone mask. -/
  mask : BitVec 16
  deriving DecidableEq, Repr

/-- One input line (R162). -/
structure InLine where
  /-- The entry. -/
  entry : InEntry
  /-- Pending entry. -/
  pendingEntry : Option InEntry
  /-- Last sample: the pin level at the last capture sample. -/
  last : Bool
  /-- Last frame-end level. -/
  lastFrame : Bool
  /-- Edge latch. -/
  latch : Bool
  /-- Pulse. -/
  pulse : Bool
  /-- Active. -/
  active : Bool
  deriving DecidableEq, Repr

/-- The entry of an output line (R168). -/
structure OutEntry where
  /-- Source. -/
  source : OutSource
  /-- Invert. -/
  invert : Bool
  /-- Microphone mask. -/
  mask : BitVec 16
  deriving DecidableEq, Repr

/-- One output line (R168): the pin LOUT carries `value`. -/
structure OutLine where
  /-- The entry. -/
  entry : OutEntry
  /-- Pending entry. -/
  pendingEntry : Option OutEntry
  /-- Value on the pin. -/
  value : Bool
  deriving DecidableEq, Repr

/-! ## Link Controller (R173, R176, R179) -/

/-- The four detail bytes of a fault (R179). -/
structure Detail where
  /-- Byte 0. -/
  b0 : Byte
  /-- Byte 1. -/
  b1 : Byte
  /-- Byte 2. -/
  b2 : Byte
  /-- Byte 3. -/
  b3 : Byte
  deriving DecidableEq, Repr

/-- One entry of the fault table (R179). -/
structure FaultEntry where
  /-- Seen flag. -/
  seen : Bool
  /-- Count 0..65535. -/
  count : Nat
  /-- Microphone mask. -/
  mics : BitVec 16
  /-- Mask flag. -/
  masked : Bool
  /-- Severity. -/
  severity : Severity
  deriving DecidableEq, Repr

/-- The first-fault record, when it holds a fault (R179). -/
structure FirstFault where
  /-- Kind. -/
  kind : FaultKind
  /-- Microphone lane, 255 for device scope. -/
  lane : Nat
  /-- Frame counter. -/
  frame : BitVec 32
  /-- Detail bytes. -/
  detail : Detail
  deriving DecidableEq, Repr

/-- The pending fault clear (R181): kinds for the table and, per microphone, a set of kinds. -/
structure PendingClear where
  /-- Kinds for the table. -/
  kinds : BitVec 16
  /-- Kinds per microphone. -/
  mics : Vector (BitVec 16) 16
  deriving DecidableEq, Repr

/-- The Link Controller (Chapter 11). -/
structure Link where
  /-- Request slot. -/
  request : Option Frame
  /-- Reply slot. -/
  reply : Option Frame
  /-- Report queue, head first. -/
  reports : List Frame
  /-- Notify masks, bit k for the class of kind 0x70 + k. -/
  masks : BitVec 16
  /-- Pending flags, bit k likewise. -/
  flags : BitVec 16
  /-- DROPPED flag. -/
  dropped : Bool
  /-- Fault table by kind code. -/
  faults : Vector FaultEntry 11
  /-- First-fault record. -/
  first : Option FirstFault
  /-- Pending fault clear. -/
  clear : Option PendingClear
  /-- The bytes driven on SPI_SDO after the direction byte of the last transaction (R170). -/
  sdo : List Byte
  deriving DecidableEq, Repr

/-! ## A frame end being taken -/

/-- A piece of frame-end work that the manual lets be taken before or after another (assumption 3). -/
inductive Task where
  /-- REF_SLIP of the frame's tallies (R8). -/
  | slips
  /-- Silence count and loss (R9). -/
  | loss
  /-- Conversion of a microphone's saturation marks (R38). -/
  | satFaults (m : MicLane)
  /-- The Talk Detector's work and the noise floor (R43, R140). -/
  | talk (m : MicLane)
  /-- A pending trim change (R16). -/
  | trim (m : MicLane)
  /-- Pending path limits (R75). -/
  | limits
  /-- The test of every chain against `max_segs` (R76). -/
  | cuts
  /-- Minimum fill (R78). -/
  | minFill
  /-- Evaluation, at an evaluation frame end (R86). -/
  | evaluation
  /-- Granting and waiting (R94, R98). -/
  | granting
  /-- The test of the free count (R101). -/
  | poolLow
  /-- A pending CKPT.PUSH (R109). -/
  | forcedPush (m : MicLane)
  /-- An automatic push (R108). -/
  | autoPush (m : MicLane)
  /-- A pending recall (R120). -/
  | recall (m : MicLane)
  /-- A pending slot command (R123). -/
  | slotCommand (m : MicLane) (slot : SlotIndex)
  /-- A pending MIC.RESET (R159). -/
  | reset (m : MicLane)
  /-- Restored-flag faults (R119). -/
  | restoredFaults (m : MicLane)
  /-- The rollback of a divergence event (R114). -/
  | rollback (m : MicLane)
  /-- The pending fault clear (R181). -/
  | faultClear
  /-- Pending freeze flags, mute flags and output sources (R57, R144, R145). -/
  | hostFlags (m : MicLane)
  /-- Step 1 of the Line Controller (R163). -/
  | lineForm
  /-- Step 2 of the Line Controller (R163). -/
  | lineSpans
  /-- Step 3 of the Line Controller for one line (R165). -/
  | lineAction (line : InLineIndex)
  /-- Step 4 of the Line Controller (R164). -/
  | lineLevels
  /-- A pending input line entry (R166). -/
  | inEntry (line : InLineIndex)
  /-- A pending output line entry (R166). -/
  | outEntry (line : OutLineIndex)
  /-- The commit countdown (R158). -/
  | commit
  /-- The idle count of an image session (R127). -/
  | sessionIdle
  deriving DecidableEq, Repr

/-- What the Talk Detector hands the Checkpoint Rings for one microphone (R43). -/
structure Handover where
  /-- ERLE index. -/
  erle : Nat
  /-- Settled flag. -/
  settled : Bool
  /-- The divergence update found Ee ≤ Ed and set the count to 0 (R108, condition 5). -/
  calm : Bool
  /-- The frame end has a divergence event (R52). -/
  event : Bool
  /-- A TALK report has been raised: a MIC.RESET accepted since waits for the next frame end (R53; assumption 4). -/
  told : Bool
  deriving DecidableEq, Repr

/-- A line event formed at step 1 of R163, under the entry then standing. -/
structure LineEvent where
  /-- The entry it is acted on under. -/
  entry : InEntry
  /-- The event came from an edge. -/
  edge : Bool
  /-- The event came from a pulse. -/
  pulse : Bool
  deriving DecidableEq, Repr

/-- What the whole of a frame end leaves of each microphone's mode for the next frame, as work taken before its end reads it
(assumption 21). -/
structure Outlook where
  /-- The microphone is HALTED for the next frame (R87, condition 3). -/
  halted : Vector Bool 16
  /-- The microphone is LIVE for the next frame and no fault has set its halt flag, but for what the refusal of its own
  automatic push brings (R108). -/
  live : Vector Bool 16
  deriving DecidableEq, Repr

/-- A frame end in progress: what is still to be taken, what governed the frame just ended, and what one block has
handed another. -/
structure FrameWork where
  /-- Work still to be taken. -/
  todo : List Task
  /-- The active set that governed the frame just ended (R149). -/
  governing : Params
  /-- Index of the next free choice among the ready pieces (assumption 3). -/
  nextChoice : Nat
  /-- The port's loss decision, once it is taken (R9): the loss state the rest of this frame end reads. -/
  loss : Option Bool
  /-- Adapting-frame flags of the frame just ended (R43). -/
  adapting : Vector Bool 16
  /-- Settled flags as the frame before left them (R43). -/
  settledBefore : Vector Bool 16
  /-- Pinned flags as the frame before left them (R87). -/
  pinnedBefore : Vector (Vector Bool 4) 16
  /-- Microphones whose MIC.RESET has been taken. -/
  resetTaken : Vector Bool 16
  /-- Microphones a restore has been taken for (R53). -/
  restoreTaken : Vector Bool 16
  /-- Microphones a restore, a zeroing or a MIC.RESET has been taken for (R92). -/
  replaced : Vector Bool 16
  /-- Microphones a push has been taken or refused for. -/
  pushTaken : Vector Bool 16
  /-- Microphones a rollback has been taken for (R168). -/
  rolledBack : Vector Bool 16
  /-- The kinds of fault that have set each microphone's halt flag at this frame end, bit k for kind k (R108). -/
  haltSet : Vector (BitVec 16) 16
  /-- Microphones whose automatic push has been refused (R107, R110). -/
  pushRefused : Vector Bool 16
  /-- What this frame end leaves of the modes for the next frame. -/
  outlook : Outlook
  /-- A GRANT has been commanded: granting has begun and is not whole (R94). -/
  grantBegun : Bool
  /-- Input lines whose pending entry has been taken (R166). -/
  entryTaken : Vector Bool 8
  /-- Hand-over of the Talk Detector, once its work is done. -/
  handover : Vector (Option Handover) 16
  /-- Events formed at step 1 of R163. -/
  events : Vector (Option LineEvent) 8
  /-- Level-hold causes formed at step 1. -/
  holdFormed : Vector Bool 16
  /-- Line mute causes formed at step 1. -/
  muteFormed : Vector Bool 16
  /-- A set was staged at this frame end (R157). -/
  stagedNow : Bool
  deriving DecidableEq, Repr

/-- Where the part stands with the end of the frame. -/
inductive FramePhase where
  /-- Samples of a frame are being taken. -/
  | sampling
  /-- The sample at position 127 has been taken and its work is done (R4). -/
  | due
  /-- Part of the frame-end work has been taken. -/
  | taking (work : FrameWork)
  deriving DecidableEq, Repr

/-! ## The state -/

/-- The state of the part. -/
structure State where
  /-- Commands waiting, first in, first out: the model's own field. -/
  pending : List Instr
  /-- How many free values have been drawn: the model's own field. -/
  drawn : Nat
  /-- Engine state (R149). -/
  engine : EngineState
  /-- Where the part stands with the end of the frame (R4). -/
  phase : FramePhase
  /-- Frame counter (R4). -/
  frameCounter : BitVec 32
  /-- Sample position within the frame (R4). -/
  position : Nat
  /-- Samples the output port carries in the current sample period (R5). -/
  outNow : Vector Int 16
  /-- Samples formed in the current period, carried in the next (R5). -/
  outNext : Vector Int 16
  /-- Reference port (R6 to R10). -/
  port : RefPort
  /-- Reference lanes (R12, R26, R27). -/
  refs : Vector RefRecord 4
  /-- Fill counts as the last frame end or acceptance left them: what QUERY.PATH shows (R82). -/
  fillsShown : Vector Nat 4
  /-- Microphone lanes. -/
  mics : Vector Mic 16
  /-- Path records (R70). -/
  paths : Vector (Vector Path 4) 16
  /-- Segments (R60). -/
  pool : Vector Segment 3072
  /-- Free list, head first (R62). -/
  freeList : List SegIndex
  /-- Growth queue, head first (R93). -/
  queue : List GrowRequest
  /-- Rebalance count (R84). -/
  rebalance : Nat
  /-- Low-pool flag (R84). -/
  lowPool : Bool
  /-- Push sequence counter (R106). -/
  pushSequence : BitVec 32
  /-- Image session, none for kind NONE (R126). -/
  session : Option Session
  /-- Layout (R149). -/
  layout : Layout
  /-- Shadow set (R149). -/
  shadow : Params
  /-- Staged set (R149). -/
  staged : Option Staged
  /-- Commit countdown (R149). -/
  countdown : Nat
  /-- Active set (R149). -/
  active : Params
  /-- Input lines (R162). -/
  inLines : Vector InLine 8
  /-- Output lines (R168). -/
  outLines : Vector OutLine 4
  /-- Link Controller (Chapter 11). -/
  link : Link
  deriving DecidableEq, Repr

/-! ## Outcomes -/

/-- Why a command stops the part. No command of the manual does: every row of the table has an effect the manual gives
in every state, so the type has no constructor, and `step` never answers a fault. -/
inductive Fault where
  deriving DecidableEq, Repr

/-- Why a command has no meaning in this model. -/
inductive Refusal where
  /-- Raised by an arm of `exec` whose command has not been given its meaning; safe, since nothing is claimed of it. No
  arm raises it. -/
  | notModelled (mnemonic : String)
  deriving DecidableEq, Repr

/-! ## Reset (R161) -/

/-- The default tuning set (Table 9-1). -/
def Params.default : Params where
  step := 128
  reg := 160
  farLevel := 65536
  nearRatio := 8
  coupling := 32
  nearHang := 12
  farHang := 4
  settleIndex := 12
  ckptIndex := 16
  ckptInterval := 625
  divFrames := 6
  rebalFrames := 25
  adaptMin := 10
  tailShift := 10
  growShift := 6
  nlpAtten := 6
  noiseFill := true
  noiseTaps := 0xB400#16
  rounding := .nearestEven
  poolLow := 128

/-- No saturation flag set. -/
def SatFlags.clear : SatFlags := ⟨false, false, false⟩

/-- A clear saturation mark. R38 says that the mark and its tally are clear and nothing of the sample position and the
reference lane: that a clear mark holds 255 and 255 is the model's choice (assumption 61). -/
def Mark.clear : Mark := ⟨false, 0, 255, 255⟩

/-- An EMPTY slot. -/
def Slot.blank : Slot := ⟨.empty, false, none, none⟩

/-- The ring after power-on (R104). -/
def Ring.blank : Ring := ⟨tabulate 4 fun _ => Slot.blank, 3, 0, false, none, .clear⟩

/-- The noise generator's seed (R138). -/
def noiseSeed (m : Nat) : BitVec 16 := BitVec.ofNat 16 (0x0101 * (m + 1))

/-- The record of microphone lane `m` after power-on (R14, R41, R59, R125, R148, R162). -/
def Mic.powerOn (m : Nat) : Mic where
  trim := 8
  trimPending := 8
  engine := ⟨0, 0, 0, 0, 0, 0, .clear, .clear, .clear, .clear⟩
  talk := ⟨.quiet, 0, 0, 0, 0, 0, false, 0, false, false, false, false, .live⟩
  out := ⟨32767, 2 ^ 30, 32768, noiseSeed m, false, false, false, .processed, .processed⟩
  ring := .blank
  holdSpan := 0
  haltKinds := 0#16
  resetPending := false

/-- A path record after power-on, with the chain R73 gives path `p`. -/
def Path.powerOn (p : Nat) : Path where
  minSegs := 4
  maxSegs := 80
  pinned := false
  lead := 0
  chain := (List.range 16).map fun i => Fin.ofNat 3072 (16 * p + i)
  limits := none
  gain := 0
  gate := false
  openGates := 0
  granted := false

/-- Sixty-four zero coefficients. -/
def zeroCoefs : Vector Int 64 := tabulate 64 fun _ => 0

/-- Segment `i` after power-on (R73): the first 1024 belong to the default chains. -/
def Segment.powerOn (i : Nat) : Segment where
  owner := if i < 1024 then .active (Fin.ofNat 16 (i / 64)) (Fin.ofNat 4 (i / 16)) (i % 16) else .free
  coefs := zeroCoefs
  energy := 0

/-- A reference lane after power-on (R13, R28). -/
def RefRecord.zero : RefRecord := ⟨tabulate 8192 fun _ => 0, 0, 0, 0, 0⟩

/-- The reference port after power-on (R8, R9, R13). -/
def RefPort.powerOn : RefPort := ⟨[], false, 0, false, 0, 0, 0, 0⟩

/-- An input line's entry after power-on (R162). -/
def InEntry.blank : InEntry := ⟨false, .level, .none, 0, 0#16⟩

/-- An output line's entry after power-on (R168). -/
def OutEntry.blank : OutEntry := ⟨.fixedLow, false, 0#16⟩

/-- Default mask of each fault kind, by code (Table 11-5). -/
def faultMaskedByDefault (k : Nat) : Bool := k == 0 || k == 1 || k == 2 || k == 7

/-- The Link Controller after power-on (R183). -/
def Link.powerOn : Link where
  request := none
  reply := none
  reports := []
  masks := 1#16
  flags := 0#16
  dropped := false
  faults := tabulate 11 fun k => ⟨false, 0, 0#16, faultMaskedByDefault k, .advisory⟩
  first := none
  clear := none
  sdo := []

/-- The default layout (R149). -/
def Layout.default : Layout := ⟨16, 4, BitVec.allOnes 64, 16⟩

/-- The machine right after reset: the power-on state (R161), with no command waiting. -/
def State.reset : State where
  pending := []
  drawn := 0
  engine := .parked
  phase := .sampling
  frameCounter := 0#32
  position := 0
  outNow := tabulate 16 fun _ => 0
  outNext := tabulate 16 fun _ => 0
  port := .powerOn
  refs := tabulate 4 fun _ => .zero
  fillsShown := tabulate 4 fun _ => 0
  mics := tabulate 16 Mic.powerOn
  paths := tabulate 16 fun m => tabulate 4 fun r => Path.powerOn (4 * m + r)
  pool := tabulate 3072 Segment.powerOn
  freeList := (List.range 2048).map fun i => Fin.ofNat 3072 (1024 + i)
  queue := []
  rebalance := 0
  lowPool := false
  pushSequence := 0#32
  session := none
  layout := .default
  shadow := .default
  staged := none
  countdown := 0
  active := .default
  inLines := tabulate 8 fun _ => ⟨.blank, none, false, false, false, false, false⟩
  outLines := tabulate 4 fun _ => ⟨.blank, none, false⟩
  link := .powerOn

end Sys2Proof.Machine
end

