-- ==== Sys2Proof/Machine/Arith.lean ====
section
/-! DEFINITION. The part's integer arithmetic: clamps, rounding (R24), the square root of R142, and the tables of
Chapters 1, 3 and 8. -/

namespace Sys2Proof.Machine

/-- Clamp to the signed 16-bit range (00_scope 4.5). -/
def sat16 (x : Int) : Int := max (-32768) (min 32767 x)

/-- Clamp to the signed 24-bit range (00_scope 4.5). -/
def sat24 (x : Int) : Int := max (-8388608) (min 8388607 x)

/-- The integer nearest `num / den`, the even one when `num / den` lies exactly halfway (R24). -/
def roundNearestEven (num : Int) (den : Nat) : Int :=
  if 2 * (num % (den : Int)) < (den : Int) then num / (den : Int)
  else if (den : Int) < 2 * (num % (den : Int)) then num / (den : Int) + 1
  else if num / (den : Int) % 2 = 0 then num / (den : Int)
  else num / (den : Int) + 1

/-- Rounding of the exact rational `num / den`, `den` above 0, to an integer (R24). -/
def roundQuotient (mode : RoundMode) (num : Int) (den : Nat) : Int :=
  match mode with
  | .nearestEven => roundNearestEven num den
  | .floor => num / (den : Int)
  | .towardZero => num.tdiv (den : Int)

/-- `x >> 3` of a signed difference added to `x`'s base: the smoothing of R27 and R49. -/
def smooth (old new : Nat) : Nat := ((old : Int) + ((new : Int) - (old : Int)) / 8).toNat

/-- The mean square of a frame from the sum of the squares of its 128 samples (00_scope 4.5). -/
def meanSquare (sum : Nat) : Nat := sum / 128

/-- The square of a sample. -/
def square (x : Int) : Nat := x.natAbs * x.natAbs

/-- Increment of a 16-bit saturating count by `n`. -/
def bump (n count : Nat) : Nat := min Config.countMax (count + n)

/-- One bit of the square root: keep `2^k` when the square of the sum does not exceed `n`. -/
def rootBit (n k root : Nat) : Nat :=
  if (root + 2 ^ k) * (root + 2 ^ k) ≤ n then root + 2 ^ k else root

/-- floor(sqrt(n)) for n below 2^32, bit by bit from 2^15 (R142). -/
def floorSqrt (n : Nat) : Nat :=
  [15, 14, 13, 12, 11, 10, 9, 8, 7, 6, 5, 4, 3, 2, 1, 0].foldl (fun root k => rootBit n k root) 0

/-- TRIM_TABLE (Table 1-2), Q14. -/
def trimTable : List Nat :=
  [10338, 10950, 11599, 12286, 13014, 13785, 14602, 15467, 16384, 17355, 18383, 19472, 20626, 21848, 23143, 24514]

/-- The trim gain of a step 0..15. -/
def trimGain (step : Nat) : Nat := trimTable.getD step 0

/-- ATTEN_TABLE (Table 8-1), Q15. -/
def attenTable : List Nat :=
  [32767, 23197, 16422, 11626, 8231, 5827, 4125, 2920, 2067, 1464, 1036, 734, 519, 368, 260, 184]

/-- The suppression gain of an NLP_ATTEN code 0..15. -/
def attenGain (code : Nat) : Nat := attenTable.getD code 0

/-- F(k) of the ERLE index (R50, Table 3-3). -/
def erleThreshold (k : Nat) : Nat := if k % 2 = 0 then 128 * 2 ^ (k / 2) else 181 * 2 ^ ((k - 1) / 2)

/-- Whether index `k` qualifies: Ee_s × F(k) ≤ Ed_s × 128 (R50). -/
def erleQualifies (edSmooth eeSmooth k : Nat) : Bool := decide (eeSmooth * erleThreshold k ≤ edSmooth * 128)

/-- The ERLE index: the largest k in 0..40 that qualifies, 40 when Ee_s = 0, 0 when none qualifies (R50). -/
def erleIndex (edSmooth eeSmooth : Nat) : Nat :=
  if eeSmooth = 0 then 40
  else (((List.range 41).filter (erleQualifies edSmooth eeSmooth)).getLast?).getD 0

/-- The cancelled input d of a raw sample at a trim step (R14). -/
def trimmed (mode : RoundMode) (step : Nat) (raw : Int) : Int :=
  sat16 (roundQuotient mode (raw * trimGain step) 16384)

/-- A coefficient rescaled from step `a` to step `b`, before its clamp (R17). -/
def rescaledRaw (mode : RoundMode) (a b : Nat) (w : Int) : Int :=
  roundQuotient mode (w * trimGain b) (trimGain a)

/-- The estimate's quotient before its clamp (R21). -/
def estimateRaw (mode : RoundMode) (acc : Int) : Int := roundQuotient mode acc (2 ^ 23)

/-- The step Δ of a coefficient (R33). -/
def updateStep (mode : RoundMode) (gain : Nat) (e x : Int) : Int := roundQuotient mode (gain * e * x) 65536

/-- The gain G of a path (R29). -/
def gainOf (step reg power taps : Nat) : Nat := step * 2 ^ 31 / (power * taps + reg * 65536)

/-- The energy of 64 coefficients (R36). -/
def coefsEnergy (coefs : Vector Int 64) : Nat := (coefs.toList.map fun w => square (w / 256)).sum

/-- The noise floor after a frame of error energy `ee` (R140). -/
def floorAfter (old ee : Nat) : Nat := if ee < old then ee else min ee (old + old / 128 + 1)

/-- One step of the noise generator (R141). -/
def generatorStep (taps state : BitVec 16) : BitVec 16 :=
  if state.getLsbD 0 then (state >>> 1) ^^^ taps else state >>> 1

/-- The comfort-noise sample (R142). -/
def comfortNoise (mode : RoundMode) (state : BitVec 16) (amplitude : Nat) : Int :=
  sat16 (roundQuotient mode (state.toInt * amplitude * 887) (2 ^ 24))

/-- The processed sample (R143). -/
def processedSample (mode : RoundMode) (fill : Bool) (e cn : Int) (gain : Nat) : Int :=
  if fill then sat16 (roundQuotient mode (e * gain + cn * (32767 - gain)) 32768)
  else sat16 (roundQuotient mode (e * gain) 32768)

end Sys2Proof.Machine
end

