-- ==== Sys2Proof/Decode.lean ====
section
/-! DEFINITION. The byte order of the link, the frame CRC, the framing of requests and the reading of inbound frames
(R171, R172, Tables 11-1 and 11-3), and `decodeTableWord`.

spec/opcode_table.json gives no row any bits, so no word spells a command by the table (assumption 29). What spells a
command on this part is a link frame: `encodeRequest` writes it and `classify` reads it. -/

namespace Sys2Proof

/-- The command a word spells by the table's bits: none, since the table gives no row any bits (assumption 29). -/
def decodeTableWord (_nbits _w : Nat) : Option Instr := none

/-! ## Byte order: little-endian, except the CRC (00_scope 4.5) -/

/-- The `n` low bytes of `x`, least significant first. -/
def leBytes : Nat → Nat → List Byte
  | 0, _ => []
  | n + 1, x => BitVec.ofNat 8 x :: leBytes n (x / 256)

/-- The number little-endian bytes spell. -/
def ofLeBytes : List Byte → Nat
  | [] => 0
  | b :: bs => b.toNat + 256 * ofLeBytes bs

/-- One byte field. -/
def byteOf (x : Nat) : Byte := BitVec.ofNat 8 x

/-- A two-byte field. -/
def le2 (x : Nat) : List Byte := leBytes 2 x

/-- A four-byte field. -/
def le4 (x : Nat) : List Byte := leBytes 4 x

/-- A 16-bit value, high byte first: the order of the CRC (R171). -/
def be2 (x : BitVec 16) : List Byte := [BitVec.ofNat 8 (x.toNat / 256), BitVec.ofNat 8 x.toNat]

/-! ## The CRC (R171) -/

/-- One place of the CRC register: shift left, and XOR with 0x1021 when the bit shifted out was 1. -/
def crcShift (reg : BitVec 16) : BitVec 16 := if reg.msb then (reg <<< 1) ^^^ 0x1021#16 else reg <<< 1

/-- One byte taken into the CRC register: XOR into its upper 8 bits, then eight places. -/
def crcByte (reg : BitVec 16) (b : Byte) : BitVec 16 :=
  crcShift (crcShift (crcShift (crcShift (crcShift (crcShift (crcShift (crcShift
    (reg ^^^ (b.zeroExtend 16 <<< 8)))))))))

/-- The CRC of a frame's bytes from KIND through the last payload byte (R171). -/
def crc16 (bytes : List Byte) : BitVec 16 := bytes.foldl crcByte 0xFFFF#16

/-! ## Frames (Table 11-1) -/

/-- SYNC. -/
def syncByte : Byte := 0x7E#8

/-- The bytes of a frame the CRC covers: KIND, TAG, FLAGS, LEN and payload. -/
def frameBody (flags : Byte) (f : Frame) : List Byte :=
  f.kind :: f.tag :: flags :: (le2 f.payload.length ++ f.payload)

/-- A frame as it stands on the link: SYNC, body, CRC high byte first. -/
def encodeFrame (flags : Byte) (f : Frame) : List Byte :=
  syncByte :: (frameBody flags f ++ be2 (crc16 (frameBody flags f)))

/-! ## Request frames (Table 11-3 and the requests' own rules) -/

/-- The frame of a request; none for the rows that are not requests. -/
def requestFrame? : Instr → Option Frame
  | .powerOn => none
  | .resetn => none
  | .captureSample _ _ => none
  | .frameEnd => none
  | .referenceArrival _ => none
  | .refLost => none
  | .evaluationFrameEnd => none
  | .grant => none
  | .requestTimeout => none
  | .sessionTimeout => none
  | .commitApplication => none
  | .holdSpanEnd _ => none
  | .divergenceEvent _ => none
  | .restartCompletion => none
  | .inboundFrameDiscarded _ => none
  | .unknownKind _ _ _ => none
  | .read _ => none
  | .ignoredTransaction _ => none
  | .ident tag => some ⟨0x01#8, tag, []⟩
  | .restart tag => some ⟨0x02#8, tag, []⟩
  | .engineRun tag => some ⟨0x08#8, tag, []⟩
  | .enginePark tag => some ⟨0x09#8, tag, []⟩
  | .layoutSet tag mics refs mask init => some ⟨0x0A#8, tag, mics :: refs :: (leBytes 8 mask.toNat ++ [init])⟩
  | .layoutGet tag => some ⟨0x0B#8, tag, []⟩
  | .paramSet tag id value => some ⟨0x10#8, tag, id :: le4 value.toNat⟩
  | .paramGet tag selector => some ⟨0x11#8, tag, [selector]⟩
  | .paramCommit tag latency => some ⟨0x12#8, tag, [latency]⟩
  | .trim tag codes => some ⟨0x18#8, tag, codes.toList⟩
  | .pathLimits tag mic ref minSegs maxSegs flags lead =>
      some ⟨0x19#8, tag, mic :: ref :: minSegs :: maxSegs :: flags :: le2 lead.toNat⟩
  | .micFreeze tag mask => some ⟨0x1A#8, tag, le2 mask.toNat⟩
  | .micThaw tag mask => some ⟨0x1B#8, tag, le2 mask.toNat⟩
  | .micMute tag mask action => some ⟨0x1C#8, tag, le2 mask.toNat ++ [action]⟩
  | .micOutput tag mic source => some ⟨0x1D#8, tag, [mic, source]⟩
  | .micReset tag mic => some ⟨0x1E#8, tag, [mic]⟩
  | .ckptPush tag mic => some ⟨0x20#8, tag, [mic]⟩
  | .ckptHold tag mic slot => some ⟨0x21#8, tag, [mic, slot]⟩
  | .ckptRelease tag mic slot => some ⟨0x22#8, tag, [mic, slot]⟩
  | .ckptDiscard tag mic slot => some ⟨0x23#8, tag, [mic, slot]⟩
  | .ckptRecall tag mic slot => some ⟨0x24#8, tag, [mic, slot]⟩
  | .imageExport tag mic slot => some ⟨0x28#8, tag, [mic, slot]⟩
  | .imageRead tag => some ⟨0x29#8, tag, []⟩
  | .imageImport tag mic slot header => some ⟨0x2A#8, tag, mic :: slot :: header⟩
  | .imageWrite tag index data => some ⟨0x2B#8, tag, le2 index.toNat ++ data⟩
  | .imageClose tag => some ⟨0x2C#8, tag, []⟩
  | .queryMic tag mic => some ⟨0x30#8, tag, [mic]⟩
  | .queryPool tag none => some ⟨0x31#8, tag, []⟩
  | .queryPool tag (some segment) => some ⟨0x31#8, tag, le2 segment.toNat⟩
  | .queryPath tag mic ref => some ⟨0x32#8, tag, [mic, ref]⟩
  | .faultRead tag => some ⟨0x38#8, tag, []⟩
  | .faultClear tag kinds mics => some ⟨0x39#8, tag, le2 kinds.toNat ++ le2 mics.toNat⟩
  | .faultSet tag kind maskValue severity => some ⟨0x3A#8, tag, [kind, maskValue, severity]⟩
  | .notifySet tag mask => some ⟨0x3B#8, tag, le2 mask.toNat⟩
  | .lineSet tag kind line flags code argument mask =>
      some ⟨0x40#8, tag, kind :: line :: flags :: code :: argument :: le2 mask.toNat⟩
  | .linePulse tag line => some ⟨0x41#8, tag, [line]⟩
  | .lineGet tag => some ⟨0x42#8, tag, []⟩

/-- The bytes a host writes after the WRITE direction byte to make a request. -/
def encodeRequest (i : Instr) : Option (List Byte) := (requestFrame? i).map (encodeFrame 0#8)

/-- Whether Table 11-3 lists the KIND. -/
def knownKind (kind : Byte) : Bool :=
  [0x01, 0x02, 0x08, 0x09, 0x0A, 0x0B, 0x10, 0x11, 0x12, 0x18, 0x19, 0x1A, 0x1B, 0x1C, 0x1D, 0x1E, 0x20, 0x21, 0x22,
    0x23, 0x24, 0x28, 0x29, 0x2A, 0x2B, 0x2C, 0x30, 0x31, 0x32, 0x38, 0x39, 0x3A, 0x3B, 0x40, 0x41, 0x42].contains
    kind.toNat

/-- Whether Table 11-3 allows the payload length for the KIND. -/
def lengthAllowed (kind : Byte) (len : Nat) : Bool :=
  match kind.toNat with
  | 0x01 => len == 0
  | 0x02 => len == 0
  | 0x08 => len == 0
  | 0x09 => len == 0
  | 0x0A => len == 11
  | 0x0B => len == 0
  | 0x10 => len == 5
  | 0x11 => len == 1
  | 0x12 => len == 1
  | 0x18 => len == 16
  | 0x19 => len == 7
  | 0x1A => len == 2
  | 0x1B => len == 2
  | 0x1C => len == 3
  | 0x1D => len == 2
  | 0x1E => len == 1
  | 0x20 => len == 1
  | 0x21 => len == 2
  | 0x22 => len == 2
  | 0x23 => len == 2
  | 0x24 => len == 2
  | 0x28 => len == 2
  | 0x29 => len == 0
  | 0x2A => decide (11 ≤ len) && decide (len ≤ 23)
  | 0x2B => len == 194 || len == 386 || len == 578 || len == 770
  | 0x2C => len == 0
  | 0x30 => len == 1
  | 0x31 => len == 0 || len == 2
  | 0x32 => len == 2
  | 0x38 => len == 0
  | 0x39 => len == 4
  | 0x3A => len == 3
  | 0x3B => len == 2
  | 0x40 => len == 7
  | 0x41 => len == 1
  | 0x42 => len == 0
  | _ => false

/-- The 16-bit field two little-endian bytes spell. -/
def field2 (a b : Byte) : BitVec 16 := BitVec.ofNat 16 (ofLeBytes [a, b])

/-- The request a frame of a listed KIND and an allowed length spells. -/
def readRequest (f : Frame) : Option Instr :=
  match f.kind.toNat, f.payload with
  | 0x01, [] => some (.ident f.tag)
  | 0x02, [] => some (.restart f.tag)
  | 0x08, [] => some (.engineRun f.tag)
  | 0x09, [] => some (.enginePark f.tag)
  | 0x0A, [mics, refs, b0, b1, b2, b3, b4, b5, b6, b7, init] =>
      some (.layoutSet f.tag mics refs (BitVec.ofNat 64 (ofLeBytes [b0, b1, b2, b3, b4, b5, b6, b7])) init)
  | 0x0B, [] => some (.layoutGet f.tag)
  | 0x10, [id, a, b, c, d] => some (.paramSet f.tag id (BitVec.ofNat 32 (ofLeBytes [a, b, c, d])))
  | 0x11, [selector] => some (.paramGet f.tag selector)
  | 0x12, [latency] => some (.paramCommit f.tag latency)
  | 0x18, codes => if h : codes.length = 16 then some (.trim f.tag ⟨⟨codes⟩, by simpa using h⟩) else none
  | 0x19, [mic, ref, minSegs, maxSegs, flags, a, b] =>
      some (.pathLimits f.tag mic ref minSegs maxSegs flags (field2 a b))
  | 0x1A, [a, b] => some (.micFreeze f.tag (field2 a b))
  | 0x1B, [a, b] => some (.micThaw f.tag (field2 a b))
  | 0x1C, [a, b, action] => some (.micMute f.tag (field2 a b) action)
  | 0x1D, [mic, source] => some (.micOutput f.tag mic source)
  | 0x1E, [mic] => some (.micReset f.tag mic)
  | 0x20, [mic] => some (.ckptPush f.tag mic)
  | 0x21, [mic, slot] => some (.ckptHold f.tag mic slot)
  | 0x22, [mic, slot] => some (.ckptRelease f.tag mic slot)
  | 0x23, [mic, slot] => some (.ckptDiscard f.tag mic slot)
  | 0x24, [mic, slot] => some (.ckptRecall f.tag mic slot)
  | 0x28, [mic, slot] => some (.imageExport f.tag mic slot)
  | 0x29, [] => some (.imageRead f.tag)
  | 0x2A, mic :: slot :: header => some (.imageImport f.tag mic slot header)
  | 0x2B, a :: b :: data => some (.imageWrite f.tag (field2 a b) data)
  | 0x2C, [] => some (.imageClose f.tag)
  | 0x30, [mic] => some (.queryMic f.tag mic)
  | 0x31, [] => some (.queryPool f.tag none)
  | 0x31, [a, b] => some (.queryPool f.tag (some (field2 a b)))
  | 0x32, [mic, ref] => some (.queryPath f.tag mic ref)
  | 0x38, [] => some (.faultRead f.tag)
  | 0x39, [a, b, c, d] => some (.faultClear f.tag (field2 a b) (field2 c d))
  | 0x3A, [kind, maskValue, severity] => some (.faultSet f.tag kind maskValue severity)
  | 0x3B, [a, b] => some (.notifySet f.tag (field2 a b))
  | 0x40, [kind, line, flags, code, argument, a, b] =>
      some (.lineSet f.tag kind line flags code argument (field2 a b))
  | 0x41, [line] => some (.linePulse f.tag line)
  | 0x42, [] => some (.lineGet f.tag)
  | _, _ => none

/-- What the checks 2 to 5 of R172 make of an inbound frame. -/
inductive Inbound where
  /-- Check 2 or check 5 fails: LINK_FORMAT, with the first four bytes received, 0 for one not received. -/
  | badFormat (b0 b1 b2 b3 : Byte)
  /-- Check 3 fails: LINK_CRC, with the received and the computed CRC. -/
  | badCrc (received computed : BitVec 16)
  /-- Check 4 fails: answered UNKNOWN_KIND. -/
  | unknown (frame : Frame)
  /-- All checks pass: a request. -/
  | request (i : Instr)
  deriving DecidableEq, Repr

/-- Byte `k` of the bytes received, 0 when it was not received (R172). -/
def receivedByte (bytes : List Byte) (k : Nat) : Byte := bytes.getD k 0#8

/-- LINK_FORMAT with the first four bytes received (R172). -/
def formatFailure (bytes : List Byte) : Inbound :=
  .badFormat (receivedByte bytes 0) (receivedByte bytes 1) (receivedByte bytes 2) (receivedByte bytes 3)

/-- Checks 4 and 5 of R172 on a frame that passed checks 2 and 3. -/
def classifyFrame (f : Frame) : Inbound :=
  if knownKind f.kind then
    if lengthAllowed f.kind f.payload.length then
      match readRequest f with
      | some i => .request i
      | none => .badFormat syncByte f.kind f.tag 0#8
    else .badFormat syncByte f.kind f.tag 0#8
  else .unknown f

/-- Checks 2 to 5 of R172 on the bytes of one inbound frame. -/
def classify (bytes : List Byte) : Inbound :=
  match bytes with
  | sync :: kind :: tag :: flags :: l0 :: l1 :: rest =>
    if sync = syncByte ∧ flags = 0#8 ∧ ofLeBytes [l0, l1] ≤ Config.maxPayload ∧
        rest.length = ofLeBytes [l0, l1] + 2 then
      if BitVec.ofNat 16 (256 * (receivedByte rest (ofLeBytes [l0, l1])).toNat +
            (receivedByte rest (ofLeBytes [l0, l1] + 1)).toNat) =
          crc16 (kind :: tag :: flags :: l0 :: l1 :: rest.take (ofLeBytes [l0, l1])) then
        classifyFrame ⟨kind, tag, rest.take (ofLeBytes [l0, l1])⟩
      else
        .badCrc
          (BitVec.ofNat 16 (256 * (receivedByte rest (ofLeBytes [l0, l1])).toNat +
            (receivedByte rest (ofLeBytes [l0, l1] + 1)).toNat))
          (crc16 (kind :: tag :: flags :: l0 :: l1 :: rest.take (ofLeBytes [l0, l1])))
    else formatFailure bytes
  | _ => formatFailure bytes

end Sys2Proof
end

