-- ==== Sys2Proof/Machine/Flags.lean ====
section
/-! DEFINITION. Codes and flag bytes: the number each name carries on the link, and the flag fields replies, reports
and outbound frames pack. -/

namespace Sys2Proof.Machine

/-- 0 PARKED, 1 RUNNING (R150). -/
def EngineState.code : EngineState → Nat
  | .parked => 0
  | .running => 1

/-- 0 QUIET, 1 FAR, 2 NEAR, 3 DOUBLE (R48). -/
def TalkState.code : TalkState → Nat
  | .quiet => 0
  | .far => 1
  | .near => 2
  | .double => 3

/-- 0 LIVE, 1 FROZEN, 2 HALTED (Table 3-5). -/
def Mode.code : Mode → Nat
  | .live => 0
  | .frozen => 1
  | .halted => 2

/-- 0 NEAREST_EVEN, 1 FLOOR, 2 TOWARD_ZERO (Table 9-1). -/
def RoundMode.code : RoundMode → Nat
  | .nearestEven => 0
  | .floor => 1
  | .towardZero => 2

/-- The rounding mode of a code (Table 9-1). -/
def RoundMode.ofCode : Nat → Option RoundMode
  | 0 => some .nearestEven
  | 1 => some .floor
  | 2 => some .towardZero
  | _ => none

/-- 0 PROCESSED, 1 RESIDUAL, 2 DIRECT (R144). -/
def Source.code : Source → Nat
  | .processed => 0
  | .residual => 1
  | .direct => 2

/-- The output source of a code (R144). -/
def Source.ofCode : Nat → Option Source
  | 0 => some .processed
  | 1 => some .residual
  | 2 => some .direct
  | _ => none

/-- 0 EMPTY, 1 VALID, 2 HELD, 3 FILLING (R124). -/
def SlotTag.code : SlotTag → Nat
  | .empty => 0
  | .valid => 1
  | .held => 2
  | .filling => 3

/-- 0 TAIL, 1 HEAD (R98). -/
def GrowKind.code : GrowKind → Nat
  | .tail => 0
  | .head => 1

/-- 0 EXPORT, 1 IMPORT (R137). -/
def SessionKind.code : SessionKind → Nat
  | .exporting => 0
  | .importing => 1

/-- 0 LEVEL, 1 RISING, 2 FALLING, 3 BOTH (R166). -/
def EdgeMode.code : EdgeMode → Nat
  | .level => 0
  | .rising => 1
  | .falling => 2
  | .both => 3

/-- The edge mode of a two-bit code (R166). -/
def EdgeMode.ofCode : Nat → EdgeMode
  | 0 => .level
  | 1 => .rising
  | 2 => .falling
  | _ => .both

/-- 0 NONE to 8 REPORT_ONLY (R166). -/
def LineAction.code : LineAction → Nat
  | .none => 0
  | .holdLevel => 1
  | .muteLevel => 2
  | .holdSpan => 3
  | .muteToggle => 4
  | .recall => 5
  | .push => 6
  | .commit => 7
  | .reportOnly => 8

/-- The line action of a code (R166). -/
def LineAction.ofCode : Nat → Option LineAction
  | 0 => some .none
  | 1 => some .holdLevel
  | 2 => some .muteLevel
  | 3 => some .holdSpan
  | 4 => some .muteToggle
  | 5 => some .recall
  | 6 => some .push
  | 7 => some .commit
  | 8 => some .reportOnly
  | _ => Option.none

/-- The code of an output source (R168). -/
def OutSource.code : OutSource → Nat
  | .farAny => 0
  | .nearAny => 1
  | .doubleAny => 2
  | .haltedAny => 3
  | .mutedAny => 4
  | .settledAll => 5
  | .refLost => 6
  | .rollbackPulse => 7
  | .fixedLow => 8
  | .fixedHigh => 9

/-- The output source of a code (R168). -/
def OutSource.ofCode : Nat → Option OutSource
  | 0 => some .farAny
  | 1 => some .nearAny
  | 2 => some .doubleAny
  | 3 => some .haltedAny
  | 4 => some .mutedAny
  | 5 => some .settledAll
  | 6 => some .refLost
  | 7 => some .rollbackPulse
  | 8 => some .fixedLow
  | 9 => some .fixedHigh
  | _ => none

/-- 0 PARAM.COMMIT, 1 line action (R158). -/
def CommitOrigin.code : CommitOrigin → Nat
  | .paramCommit => 0
  | .lineAction => 1

/-- The code of a fault kind (Table 11-5). -/
def FaultKind.code : FaultKind → Fin 11
  | .coefSat => 0
  | .estSat => 1
  | .errSat => 2
  | .divergence => 3
  | .ringFull => 4
  | .imageReject => 5
  | .poolExhausted => 6
  | .refSlip => 7
  | .refLost => 8
  | .linkCrc => 9
  | .linkFormat => 10

/-- The fault kind of a code (Table 11-5). -/
def FaultKind.ofCode : Nat → Option FaultKind
  | 0 => some .coefSat
  | 1 => some .estSat
  | 2 => some .errSat
  | 3 => some .divergence
  | 4 => some .ringFull
  | 5 => some .imageReject
  | 6 => some .poolExhausted
  | 7 => some .refSlip
  | 8 => some .refLost
  | 9 => some .linkCrc
  | 10 => some .linkFormat
  | _ => none

/-- Whether a fault kind is microphone-scoped (Table 11-5). -/
def FaultKind.micScoped (k : FaultKind) : Bool := decide (k.code.val ≤ 5)

/-- The code of a report class: its KIND is 0x70 plus the code (Table 11-4). -/
def ReportClass.code : ReportClass → Nat
  | .talk => 0
  | .settle => 1
  | .ckpt => 2
  | .rollback => 3
  | .tail => 4
  | .fault => 5
  | .reference => 6
  | .line => 7
  | .commit => 8
  | .image => 9

/-- The status byte (Table 11-2). -/
def Status.code : Status → Nat
  | .ok => 0
  | .clamped => 1
  | .refusedState => 2
  | .refusedRange => 3
  | .refusedBusy => 4
  | .unknownKind => 5
  | .noRoom => 6

/-- The status byte as sent. -/
def Status.byte (st : Status) : Byte := byteOf st.code

/-- A flag as the number 0 or 1. -/
def flagNat (b : Bool) : Nat := if b then 1 else 0

/-- A flag as one byte. -/
def flagByte (b : Bool) : Byte := byteOf (flagNat b)

/-- A list of flags packed into a number, the first in bit 0. -/
def packBits : List Bool → Nat
  | [] => 0
  | b :: bs => flagNat b + 2 * packBits bs

/-- Bit `m` of a microphone mask. -/
def maskHas (mask : BitVec 16) (m : MicLane) : Bool := mask.getLsbD m.val

/-- The mask of a microphone predicate. -/
def micMask (p : MicLane → Bool) : BitVec 16 := BitVec.ofNat 16 (packBits (allMics.map p))

/-- The mask with one bit. -/
def bit16 (k : Nat) : BitVec 16 := BitVec.ofNat 16 (2 ^ k)

/-- The sticky flags as QUERY.MIC shows them: bit 0 COEF_SAT, bit 1 EST_SAT, bit 2 ERR_SAT (Table 3-5). -/
def SatFlags.bits (f : SatFlags) : Nat := packBits [f.coef, f.est, f.err]

/-- The flags byte of an image header (Table 7-1). -/
def imageFlags (settled : Bool) (f : SatFlags) : Nat := packBits [settled, f.coef, f.est, f.err]

/-- The FLAGS byte of an outbound frame: READY, MORE, DROPPED (R173). -/
def outboundFlags (ready more dropped : Bool) : Byte := byteOf (packBits [ready, more, dropped])

/-- The first byte of a fault entry: seen, masked, HALTING (Table 11-6). -/
def FaultEntry.bits (e : FaultEntry) : Nat := packBits [e.seen, e.masked, e.severity == .halting]

/-- A fault entry as FAULT.READ and FAULT.SET return it (Table 11-6). -/
def FaultEntry.bytes (e : FaultEntry) : List Byte := byteOf e.bits :: (le2 e.count ++ le2 e.mics.toNat)

/-- The detail bytes in order. -/
def Detail.bytes (d : Detail) : List Byte := [d.b0, d.b1, d.b2, d.b3]

/-- Four detail bytes from numbers. -/
def detailOf (a b c d : Nat) : Detail := ⟨byteOf a, byteOf b, byteOf c, byteOf d⟩

end Sys2Proof.Machine
end

