-- ==== Sys2Proof/Machine/Ops.lean ====
section
/-! DEFINITION. The shared operations: access to the tables of State, the derived quantities the manual counts, reports
and faults (Chapter 11), the free list and the chains (Chapter 4), the output lines (R168) and the modes (R56). -/

namespace Sys2Proof.Machine

/-! ## Access -/

/-- The record of microphone lane `m`. -/
def State.mic (s : State) (m : MicLane) : Mic := s.mics.get m

/-- The record of path (m, r). -/
def State.path (s : State) (m : MicLane) (r : RefLane) : Path := (s.paths.get m).get r

/-- Segment `i` of the pool. -/
def State.segment (s : State) (i : SegIndex) : Segment := s.pool.get i

/-- Reference lane `r`. -/
def State.ref (s : State) (r : RefLane) : RefRecord := s.refs.get r

/-- Slot `k` of microphone `m`'s ring. -/
def State.slot (s : State) (m : MicLane) (k : SlotIndex) : Slot := (s.mic m).ring.slots.get k

/-- The fault table entry of a kind. -/
def State.faultEntry (s : State) (k : FaultKind) : FaultEntry := s.link.faults.get k.code

/-- Change the record of one microphone. -/
def State.modMic (m : MicLane) (f : Mic → Mic) (s : State) : State :=
  { s with mics := tablePut s.mics m (f (s.mic m)) }

/-- Change the Canceller Engine's record of one microphone. -/
def State.modEngine (m : MicLane) (f : EngineRecord → EngineRecord) (s : State) : State :=
  s.modMic m fun x => { x with engine := f x.engine }

/-- Change the Talk Detector's record of one microphone. -/
def State.modTalk (m : MicLane) (f : TalkRecord → TalkRecord) (s : State) : State :=
  s.modMic m fun x => { x with talk := f x.talk }

/-- Change the Residual Suppressor's record of one microphone. -/
def State.modOut (m : MicLane) (f : OutRecord → OutRecord) (s : State) : State :=
  s.modMic m fun x => { x with out := f x.out }

/-- Change the ring of one microphone. -/
def State.modRing (m : MicLane) (f : Ring → Ring) (s : State) : State :=
  s.modMic m fun x => { x with ring := f x.ring }

/-- Change one slot of one microphone's ring. -/
def State.modSlot (m : MicLane) (k : SlotIndex) (f : Slot → Slot) (s : State) : State :=
  s.modRing m fun x => { x with slots := tablePut x.slots k (f (x.slots.get k)) }

/-- Change the record of one path. -/
def State.modPath (m : MicLane) (r : RefLane) (f : Path → Path) (s : State) : State :=
  { s with paths := tablePut s.paths m (tablePut (s.paths.get m) r (f (s.path m r))) }

/-- Change one segment. -/
def State.modSegment (i : SegIndex) (f : Segment → Segment) (s : State) : State :=
  { s with pool := tablePut s.pool i (f (s.segment i)) }

/-- Change one reference lane. -/
def State.modRef (r : RefLane) (f : RefRecord → RefRecord) (s : State) : State :=
  { s with refs := tablePut s.refs r (f (s.ref r)) }

/-- Change one input line. -/
def State.modInLine (k : InLineIndex) (f : InLine → InLine) (s : State) : State :=
  { s with inLines := tablePut s.inLines k (f (s.inLines.get k)) }

/-- Change one output line. -/
def State.modOutLine (k : OutLineIndex) (f : OutLine → OutLine) (s : State) : State :=
  { s with outLines := tablePut s.outLines k (f (s.outLines.get k)) }

/-- Change the Link Controller. -/
def State.modLink (f : Link → Link) (s : State) : State := { s with link := f s.link }

/-- Change one fault table entry. -/
def State.modFault (k : FaultKind) (f : FaultEntry → FaultEntry) (s : State) : State :=
  s.modLink fun l => { l with faults := tablePut l.faults k.code (f (l.faults.get k.code)) }

/-- Change the frame end in progress; no effect when none is. -/
def State.modWork (f : FrameWork → FrameWork) (s : State) : State :=
  match s.phase with
  | .taking w => { s with phase := .taking (f w) }
  | .sampling => s
  | .due => s

/-- Apply a change for each element of a list, in list order. -/
def State.forEach {α : Type} (xs : List α) (f : α → State → State) (s : State) : State :=
  xs.foldl (fun t x => f x t) s

/-! ## Derived quantities -/

/-- A microphone lane is configured when it lies within the layout's count (00_scope 4.6). -/
def Layout.hasMic (l : Layout) (m : MicLane) : Bool := decide (m.val < l.mics)

/-- A reference lane is configured when it lies within the layout's count (00_scope 4.6). -/
def Layout.hasRef (l : Layout) (r : RefLane) : Bool := decide (r.val < l.refs)

/-- Path number p = 4m + r (R71). -/
def pathNumber (m : MicLane) (r : RefLane) : Nat := 4 * m.val + r.val

/-- A path is enabled when its flag is set and both its lanes are configured (R71). -/
def Layout.enables (l : Layout) (m : MicLane) (r : RefLane) : Bool :=
  l.mask.getLsbD (pathNumber m r) && l.hasMic m && l.hasRef r

/-- The enable flag of path (m, r). -/
def State.enabled (s : State) (m : MicLane) (r : RefLane) : Bool := s.layout.enables m r

/-- The configured microphone lanes, ascending. -/
def State.configuredMics (s : State) : List MicLane := allMics.filter s.layout.hasMic

/-- The configured reference lanes, ascending. -/
def State.configuredRefs (s : State) : List RefLane := allRefs.filter s.layout.hasRef

/-- The enabled paths in ascending path number. -/
def State.enabledPaths (s : State) : List (MicLane × RefLane) := allPaths.filter fun p => s.enabled p.1 p.2

/-- The window L of a path (R67). -/
def Path.window (p : Path) : Nat := 64 * p.chain.length

/-- The free count (R61, R62). -/
def State.freeCount (s : State) : Nat := s.freeList.length

/-- A microphone's ACTIVE count: segments in the chains of its paths (R61). -/
def State.micActive (s : State) (m : MicLane) : Nat := (allRefs.map fun r => (s.path m r).chain.length).sum

/-- The ACTIVE count (R61). -/
def State.activeCount (s : State) : Nat := (allMics.map s.micActive).sum

/-- The path entries whose segments a slot owns: its record's, or for a FILLING slot the reservation's (R60, R132). -/
def State.slotEntries (s : State) (m : MicLane) (k : SlotIndex) : List PathEntry :=
  match (s.slot m k).tag with
  | .filling => match s.session with
    | some x => x.entries
    | none => []
  | .empty | .valid | .held => match (s.slot m k).record with
    | some rec => rec.entries
    | none => []

/-- The number of segments of a list of path entries. -/
def entriesSegments (es : List PathEntry) : Nat := (es.map fun e => e.chain.length).sum

/-- The number of segments a slot owns. -/
def State.slotSegments (s : State) (m : MicLane) (k : SlotIndex) : Nat := entriesSegments (s.slotEntries m k)

/-- A microphone's CHECKPOINT count: segments owned by its slots, a filling slot included (R61). -/
def State.micCheckpoint (s : State) (m : MicLane) : Nat := (allSlots.map fun k => s.slotSegments m k).sum

/-- The CHECKPOINT count (R61). -/
def State.checkpointCount (s : State) : Nat := (allMics.map s.micCheckpoint).sum

/-- Whether the engine is PARKED. -/
def State.parked (s : State) : Bool := s.engine == .parked

/-- The active set a rule reads: during a frame end the set that governed the frame just ended, otherwise the active
set at the time (R149). -/
def State.governing (s : State) : Params :=
  match s.phase with
  | .taking w => w.governing
  | .sampling => s.active
  | .due => s.active

/-- Whether microphone `m` was settled before the frame end in progress; outside one, whether it is settled (R53). -/
def State.settledBefore (s : State) (m : MicLane) : Bool :=
  match s.phase with
  | .taking w => w.settledBefore.get m
  | .sampling => (s.mic m).talk.settled
  | .due => (s.mic m).talk.settled

/-- The loss state a rule reads: during a frame end the port's loss decision at that frame end, once it is taken, which an
arrival after it does not change (R9, R43; assumption 40); otherwise the state of the port. -/
def State.lossState (s : State) : Bool :=
  match s.phase with
  | .taking w => w.loss.getD s.port.lost
  | .sampling => s.port.lost
  | .due => s.port.lost

/-- ATTN: high while the reply slot is full or the report queue holds a report (R177). -/
def State.attn (s : State) : Bool := s.link.reply.isSome || !s.link.reports.isEmpty

/-- The signed 16-bit sample in the upper half of a 32-bit slot (Table 1-1). -/
def slotSample (slot : BitVec 32) : Int := (slot.extractLsb' 16 16).toInt

/-- The 32-bit slot that carries a sample in its upper half, its lower half 0 (R5). -/
def sampleSlot (x : Int) : BitVec 32 := (BitVec.ofInt 16 x).zeroExtend 32 <<< 16

/-- What OUT_DOUT carries in slot `m` of the current sample period (R5). -/
def State.outputSlot (s : State) (m : MicLane) : BitVec 32 := sampleSlot (s.outNow.get m)

/-- The sample a tap reads at delay `k` (R12). -/
def RefRecord.tap (x : RefRecord) (k : Nat) : Int := if k < x.fill then x.ring.toList.getD k 0 else 0

/-! ## Free values -/

/-- Draw one free value for a field the manual leaves unstated (assumption 6). -/
def State.draw (s : State) : Nat × State := (Config.openValue s.drawn, { s with drawn := s.drawn + 1 })

/-! ## Reports (R176) -/

/-- The frame of a report of a class (R174). -/
def reportFrame (c : ReportClass) (payload : List Byte) : Frame := ⟨byteOf (0x70 + c.code), 0#8, payload⟩

/-- A report reaches the Link Controller (R176). -/
def Link.report (c : ReportClass) (payload : List Byte) (l : Link) : Link :=
  if l.masks.getLsbD c.code || decide (Config.reportDepth ≤ l.reports.length) then
    { l with flags := l.flags ||| bit16 c.code }
  else { l with reports := l.reports ++ [reportFrame c payload] }

/-- A block raises a report. -/
def State.report (c : ReportClass) (payload : List Byte) (s : State) : State := s.modLink (Link.report c payload)

/-- The PENDING report, when the queue has room and an unmasked class has its flag set (R176). -/
def Link.reportPending (frameCounter : BitVec 32) (l : Link) : Link :=
  if l.reports.length < Config.reportDepth ∧ l.flags &&& ~~~l.masks ≠ 0#16 then
    { l with
      reports := l.reports ++ [⟨0x7F#8, 0#8, le2 (l.flags &&& ~~~l.masks).toNat ++ le4 frameCounter.toNat⟩]
      flags := l.flags &&& l.masks }
  else l

/-- The frame counter as four bytes. -/
def State.counterBytes (s : State) : List Byte := le4 s.frameCounter.toNat

/-! ## Faults (R179) -/

/-- Step 1 of R179 on an entry. -/
def FaultEntry.count1 (k : FaultKind) (lane : Option MicLane) (e : FaultEntry) : FaultEntry :=
  { e with
    seen := true
    count := bump 1 e.count
    mics := match lane with
      | some m => if k.micScoped then e.mics ||| bit16 m.val else e.mics
      | none => e.mics }

/-- The lane byte of a fault: 255 for device scope (R179). -/
def laneByte (lane : Option MicLane) : Nat := match lane with
  | some m => m.val
  | none => 255

/-- Whether a fault raised now halts a microphone: it names one, and its kind is microphone-scoped, unmasked and HALTING
(R55, R179). That the FAULT report says so for a microphone already halted too is assumption 55. -/
def State.haltsNow (s : State) (k : FaultKind) (lane : Option MicLane) : Bool :=
  lane.isSome && k.micScoped && !(s.faultEntry k).masked && (s.faultEntry k).severity == .halting

/-- Kind `k` joins the set of halting kinds of microphone `m`, whose halt flag is set (R179), at acceptance too: what
QUERY.MIC then shows while RUNNING is assumption 45. -/
def State.haltMic (k : FaultKind) (m : MicLane) (s : State) : State :=
  (s.modMic m fun x =>
    { x with haltKinds := x.haltKinds ||| bit16 k.code.val, talk := { x.talk with halt := true } }).modWork fun w =>
      { w with haltSet := tablePut w.haltSet m (w.haltSet.get m ||| bit16 k.code.val) }

/-- A block raises a fault (R179). -/
def State.fault (k : FaultKind) (lane : Option MicLane) (d : Detail) (s : State) : State :=
  let counted := s.modFault k (FaultEntry.count1 k lane)
  if (s.faultEntry k).masked then counted
  else
    let recorded := counted.modLink fun l =>
      { l with first := match l.first with
        | some x => some x
        | none => some ⟨k, laneByte lane, s.frameCounter, d⟩ }
    let reported := recorded.report .fault
      (byteOf k.code.val :: byteOf (laneByte lane) ::
        (le2 (counted.faultEntry k).count ++ d.bytes ++ flagByte (s.haltsNow k lane) :: s.counterBytes))
    match lane with
    | some m => if s.haltsNow k lane then reported.haltMic k m else reported
    | none => reported

/-! ## The free list (R62 to R64) -/

/-- Release segments: each becomes FREE with energy 0 and joins the tail of the free list in the order given (R64). -/
def State.release (segs : List SegIndex) (s : State) : State :=
  let freed := s.forEach segs fun i t => t.modSegment i fun x => { x with owner := .free, energy := 0 }
  { freed with freeList := freed.freeList ++ segs }

/-- The `k` segments an allocation takes (R63). -/
def State.nextSegments (s : State) (k : Nat) : List SegIndex := s.freeList.take k

/-- Take `k` segments from the head of the free list, zero-filled with energy 0 (R63). Their owner is set by the
operation that places them. -/
def State.take (k : Nat) (s : State) : State :=
  let zeroed := s.forEach (s.nextSegments k) fun i t => t.modSegment i fun x => { x with coefs := zeroCoefs, energy := 0 }
  { zeroed with freeList := zeroed.freeList.drop k }

/-- Give the segments of a list the owners of positions 0, 1, 2, ... -/
def State.own (owner : Nat → Owner) (segs : List SegIndex) (s : State) : State :=
  s.forEach segs.zipIdx fun p t => t.modSegment p.1 fun x => { x with owner := owner p.2 }

/-- Copy the coefficients of segment `src` into segment `dst`. -/
def State.copySegment (src dst : SegIndex) (s : State) : State :=
  s.modSegment dst fun x => { x with coefs := (s.segment src).coefs }

/-- Copy coefficients pair by pair, source first. -/
def State.copySegments (pairs : List (SegIndex × SegIndex)) (s : State) : State :=
  s.forEach pairs fun p t => t.copySegment p.1 p.2

/-! ## Chains (R67, R68) -/

/-- Set the chain of a path and number its segments' owner positions (R68). -/
def State.setChain (m : MicLane) (r : RefLane) (chain : List SegIndex) (s : State) : State :=
  (s.modPath m r fun p => { p with chain := chain }).own (Owner.active m r) chain

/-- Set the lead delay of a path. -/
def State.setLead (m : MicLane) (r : RefLane) (lead : Nat) (s : State) : State :=
  s.modPath m r fun p => { p with lead := lead }

/-- Release the whole chain of a path (R68, release all). -/
def State.releaseChain (m : MicLane) (r : RefLane) (s : State) : State :=
  (s.modPath m r fun p => { p with chain := [] }).release (s.path m r).chain

/-- Release every chain of a microphone, paths in ascending reference lane (R64). -/
def State.releaseChains (m : MicLane) (s : State) : State := s.forEach allRefs fun r t => t.releaseChain m r

/-- Keep the first `k` segments of a chain and release the rest in chain order (R68, drop last; R76). -/
def State.cutChain (m : MicLane) (r : RefLane) (k : Nat) (s : State) : State :=
  (s.modPath m r fun p => { p with chain := p.chain.take k }).release ((s.path m r).chain.drop k)

/-- Allocate a chain of `k` segments for a path, replacing its empty chain, with lead delay 0 (R72). -/
def State.allocateChain (m : MicLane) (r : RefLane) (k : Nat) (s : State) : State :=
  ((s.take k).setChain m r (s.nextSegments k)).setLead m r 0

/-- Append one allocated segment (R68). -/
def State.append (m : MicLane) (r : RefLane) (s : State) : State :=
  (s.take 1).setChain m r ((s.path m r).chain ++ s.nextSegments 1)

/-- Prepend one allocated segment and lower the lead delay by 64 (R68). -/
def State.prepend (m : MicLane) (r : RefLane) (s : State) : State :=
  ((s.take 1).setChain m r (s.nextSegments 1 ++ (s.path m r).chain)).setLead m r ((s.path m r).lead - 64)

/-- Release the last segment (R68, drop last). -/
def State.dropLast (m : MicLane) (r : RefLane) (s : State) : State :=
  s.cutChain m r ((s.path m r).chain.length - 1)

/-- Release the first segment and raise the lead delay by 64 (R68, drop first). -/
def State.dropFirst (m : MicLane) (r : RefLane) (s : State) : State :=
  ((s.setChain m r ((s.path m r).chain.drop 1)).release ((s.path m r).chain.take 1)).setLead m r
    ((s.path m r).lead + 64)

/-- Set every coefficient of a microphone's ACTIVE segments to 0 in place (R65). -/
def State.zeroInPlace (m : MicLane) (s : State) : State :=
  s.forEach (allRefs.flatMap fun r => (s.path m r).chain) fun i t =>
    t.modSegment i fun x => { x with coefs := zeroCoefs }

/-! ## The growth queue (R93, R99) -/

/-- Whether a request of path (m, r) is queued. -/
def State.queued (s : State) (m : MicLane) (r : RefLane) : Bool :=
  s.queue.any fun q => q.m == m && q.r == r

/-- Remove every queued request of a microphone's paths, without reports (R99). -/
def State.dropRequests (m : MicLane) (s : State) : State := { s with queue := s.queue.filter fun q => q.m != m }

/-- A TAIL report of a path (R102). -/
def State.tailReport (m : MicLane) (r : RefLane) (cause segments waited : Nat) (s : State) : State :=
  s.report .tail
    (byteOf m.val :: byteOf r.val :: byteOf cause :: byteOf segments :: byteOf (s.path m r).chain.length ::
      (le2 (s.path m r).lead ++ byteOf waited ::
        (le2 s.freeCount ++ le2 s.activeCount ++ le2 s.checkpointCount ++ byteOf s.queue.length :: s.counterBytes)))

/-- The POOL report: a TAIL report with the cause POOL_LOW (R101, R102). -/
def State.poolReport (s : State) : State :=
  s.report .tail
    (byteOf 255 :: byteOf 255 :: byteOf 10 :: byteOf 0 :: byteOf 0 ::
      (le2 0 ++ byteOf 0 ::
        (le2 s.freeCount ++ le2 s.activeCount ++ le2 s.checkpointCount ++ byteOf s.queue.length :: s.counterBytes)))

/-- The cut of R76 on one path: the excess over `max_segs` released and reported. -/
def State.enforceLimit (m : MicLane) (r : RefLane) (s : State) : State :=
  if (s.path m r).maxSegs < (s.path m r).chain.length then
    (s.cutChain m r (s.path m r).maxSegs).tailReport m r 9 ((s.path m r).chain.length - (s.path m r).maxSegs) 0
  else s

/-- The cut of R76 on every path, in ascending path number. -/
def State.enforceLimits (s : State) : State := s.forEach allPaths fun p t => t.enforceLimit p.1 p.2

/-- Take a path's pending limits (R75, R77). -/
def State.takeLimits (m : MicLane) (r : RefLane) (s : State) : State :=
  match (s.path m r).limits with
  | some x => s.modPath m r fun p =>
      { p with
        minSegs := x.minSegs
        maxSegs := x.maxSegs
        pinned := x.pinned
        lead := x.lead.getD p.lead
        limits := none }
  | none => s

/-- Reset the open-gate counts and grant flags of a microphone's paths (R92). -/
def State.resetEvaluation (m : MicLane) (s : State) : State :=
  s.forEach allRefs fun r t => t.modPath m r fun p => { p with openGates := 0, granted := false }

/-! ## Settled flag, modes, outputs -/

/-- A SETTLE report (R51); the cause is 0 INDEX, 1 ZEROED, 2 RESTORE, 3 RESET. -/
def State.settleReport (m : MicLane) (cause : Nat) (s : State) : State :=
  s.report .settle
    (byteOf m.val :: flagByte (s.mic m).talk.settled :: byteOf (s.mic m).talk.erle :: byteOf cause :: s.counterBytes)

/-- Set the settled flag, with a SETTLE report when it changes (R51). -/
def State.setSettled (m : MicLane) (flag : Bool) (cause : Nat) (s : State) : State :=
  if (s.mic m).talk.settled = flag then s
  else (s.modTalk m fun t => { t with settled := flag }).settleReport m cause

/-- The adaptation mode the causes and the halt flag give (R56). -/
def deriveMode (t : TalkRecord) (holdSpan : Nat) : Mode :=
  if t.halt then .halted
  else if t.freeze || t.levelHold || decide (0 < holdSpan) then .frozen
  else .live

/-- The mode of microphone `m` as its causes now stand (R54, R56). -/
def State.derivedMode (s : State) (m : MicLane) : Mode := deriveMode (s.mic m).talk (s.mic m).holdSpan

/-- Derive the mode of every configured microphone (R56). -/
def State.deriveModes (s : State) : State :=
  s.forEach s.configuredMics fun m t => t.modTalk m fun x => { x with mode := t.derivedMode m }

/-- A microphone is muted by its host flag or its line cause (R146). -/
def OutRecord.muted (o : OutRecord) : Bool := o.mute || o.lineMute

/-- The configured microphones an output line's mask covers. -/
def State.covered (s : State) (mask : BitVec 16) : List MicLane := s.configuredMics.filter (maskHas mask)

/-- The value of an output source before inversion (R168). `rolledBack` holds the rollbacks taken at the frame end. -/
def State.sourceValue (s : State) (rolledBack : MicLane → Bool) (e : OutEntry) : Bool :=
  match e.source with
  | .farAny => (s.covered e.mask).any fun m => (s.mic m).talk.talk == .far
  | .nearAny => (s.covered e.mask).any fun m => (s.mic m).talk.talk == .near
  | .doubleAny => (s.covered e.mask).any fun m => (s.mic m).talk.talk == .double
  | .haltedAny => (s.covered e.mask).any fun m => (s.mic m).talk.mode == .halted
  | .mutedAny => (s.covered e.mask).any fun m => (s.mic m).out.muted
  | .settledAll => !(s.covered e.mask).isEmpty && (s.covered e.mask).all fun m => (s.mic m).talk.settled
  | .refLost => s.lossState
  | .rollbackPulse => (s.covered e.mask).any rolledBack
  | .fixedLow => false
  | .fixedHigh => true

/-- Recompute every output line (R168). -/
def State.updateOutputs (rolledBack : MicLane → Bool) (s : State) : State :=
  { s with outLines := tableMap (fun o => { o with value := xor (s.sourceValue rolledBack o.entry) o.entry.invert }) s.outLines }

/-- What an acceptance does to modes and output lines while PARKED: both follow the state it leaves (R56, R168). -/
def State.settleParked (s : State) : State :=
  if s.parked then s.deriveModes.updateOutputs fun _ => false else s

/-! ## Commit (R157, R158) -/

/-- The first cross-clamp of R157 acts. -/
def Params.growClamps (p : Params) : Bool := decide (p.tailShift - 1 < p.growShift)

/-- The second cross-clamp of R157 acts. -/
def Params.adaptClamps (p : Params) : Bool := decide (p.rebalFrames < p.adaptMin)

/-- The two cross-clamps of R157, in order. -/
def Params.crossClamp (p : Params) : Params :=
  { p with
    growShift := if p.growClamps then p.tailShift - 1 else p.growShift
    adaptMin := if p.adaptClamps then p.rebalFrames else p.adaptMin }

/-- The cross-clamp byte of R157. -/
def Params.clampByte (p : Params) : Nat := packBits [p.growClamps, p.adaptClamps]

/-- Stage the shadow set, cross-clamped, with a latency (R157). -/
def State.stage (origin : CommitOrigin) (latency clampByte : Nat) (s : State) : State :=
  { s with
    shadow := s.shadow.crossClamp
    staged := some ⟨s.shadow.crossClamp, origin, latency, clampByte⟩
    countdown := latency }

/-- Apply the staged set; the cause is 0 COUNTDOWN, 1 PARK, 2 PARKED (R158). -/
def State.applyStaged (cause : Nat) (s : State) : State :=
  match s.staged with
  | some x =>
    { s with active := x.params, staged := none, countdown := 0 }.report .commit
      (byteOf x.origin.code :: byteOf cause :: byteOf x.latency :: byteOf x.clampByte :: s.counterBytes)
  | none => s

/-! ## Power-on (R161) -/

/-- The part takes its power-on state. The commands still waiting outside it, and the count of free values drawn, are
the model's own and stand. -/
def State.powerOn (s : State) : State := { State.reset with pending := s.pending, drawn := s.drawn }

end Sys2Proof.Machine
end

