-- ==== Sys2Proof/Machine/Operands.lean ====
section
/-! DEFINITION. Operand forms: how a request's payload bytes name lanes, paths, slots, masks, parameters, line entries
and the entries of an image header, and which values each rule refuses. -/

namespace Sys2Proof.Machine

/-- A microphone lane byte naming a configured lane. -/
def State.micOperand (s : State) (b : Byte) : Option MicLane :=
  if h : b.toNat < 16 then
    if s.layout.hasMic ⟨b.toNat, h⟩ then some ⟨b.toNat, h⟩ else none
  else none

/-- A slot byte 0..3. -/
def slotOperand (b : Byte) : Option SlotIndex := if h : b.toNat < 4 then some ⟨b.toNat, h⟩ else none

/-- A reference lane byte 0..3. -/
def refOperand (b : Byte) : Option RefLane := if h : b.toNat < 4 then some ⟨b.toNat, h⟩ else none

/-- A microphone byte and a slot byte (R120 to R122, R129, R131). -/
def State.slotPair (s : State) (mic slot : Byte) : Option (MicLane × SlotIndex) :=
  match s.micOperand mic, slotOperand slot with
  | some m, some k => some (m, k)
  | _, _ => none

/-- A microphone byte and a reference byte naming an enabled path (R74, R82). -/
def State.pathOperand (s : State) (mic ref : Byte) : Option (MicLane × RefLane) :=
  match s.micOperand mic, refOperand ref with
  | some m, some r => if s.enabled m r then some (m, r) else none
  | _, _ => none

/-- No flag of the mask is set for an unconfigured lane (R57, R145). -/
def State.maskConfigured (s : State) (mask : BitVec 16) : Bool :=
  allMics.all fun m => !maskHas mask m || s.layout.hasMic m

/-- A segment index 0..3071 (R81). -/
def segmentOperand (x : BitVec 16) : Option SegIndex := if h : x.toNat < 3072 then some ⟨x.toNat, h⟩ else none

/-- An input line byte 0..7 (R167). -/
def inLineOperand (b : Byte) : Option InLineIndex := if h : b.toNat < 8 then some ⟨b.toNat, h⟩ else none

/-- An output line byte 0..3 (R166). -/
def outLineOperand (b : Byte) : Option OutLineIndex := if h : b.toNat < 4 then some ⟨b.toNat, h⟩ else none

/-! ## Parameters (Table 9-1, R155) -/

/-- Range of each numeric parameter by id (Table 9-1). -/
def paramRange (id : Nat) : Option (Nat × Nat) :=
  match id with
  | 0 => some (0, 255)
  | 1 => some (1, 65535)
  | 2 => some (0, 1073741824)
  | 3 => some (0, 255)
  | 4 => some (1, 255)
  | 5 => some (0, 63)
  | 6 => some (0, 63)
  | 7 => some (4, 40)
  | 8 => some (0, 40)
  | 9 => some (1, 65535)
  | 10 => some (1, 63)
  | 11 => some (1, 255)
  | 12 => some (1, 255)
  | 13 => some (1, 20)
  | 14 => some (0, 19)
  | 15 => some (0, 15)
  | 19 => some (0, 3072)
  | _ => none

/-- The value of a parameter as PARAM.GET shows it (R156). -/
def Params.value (p : Params) (id : Nat) : Nat :=
  match id with
  | 0 => p.step
  | 1 => p.reg
  | 2 => p.farLevel
  | 3 => p.nearRatio
  | 4 => p.coupling
  | 5 => p.nearHang
  | 6 => p.farHang
  | 7 => p.settleIndex
  | 8 => p.ckptIndex
  | 9 => p.ckptInterval
  | 10 => p.divFrames
  | 11 => p.rebalFrames
  | 12 => p.adaptMin
  | 13 => p.tailShift
  | 14 => p.growShift
  | 15 => p.nlpAtten
  | 16 => flagNat p.noiseFill
  | 17 => p.noiseTaps.toNat
  | 18 => p.rounding.code
  | 19 => p.poolLow
  | _ => 0

/-- A numeric parameter stored. -/
def Params.store (p : Params) (id v : Nat) : Params :=
  match id with
  | 0 => { p with step := v }
  | 1 => { p with reg := v }
  | 2 => { p with farLevel := v }
  | 3 => { p with nearRatio := v }
  | 4 => { p with coupling := v }
  | 5 => { p with nearHang := v }
  | 6 => { p with farHang := v }
  | 7 => { p with settleIndex := v }
  | 8 => { p with ckptIndex := v }
  | 9 => { p with ckptInterval := v }
  | 10 => { p with divFrames := v }
  | 11 => { p with rebalFrames := v }
  | 12 => { p with adaptMin := v }
  | 13 => { p with tailShift := v }
  | 14 => { p with growShift := v }
  | 15 => { p with nlpAtten := v }
  | 19 => { p with poolLow := v }
  | _ => p

/-- What PARAM.SET makes of an id and a value (R155): the set after it and the status, or none where it is refused. -/
def Params.write (p : Params) (id v : Nat) : Option (Params × Status) :=
  match paramRange id with
  | some (lo, hi) => some (p.store id (max lo (min hi v)), if lo ≤ v ∧ v ≤ hi then .ok else .clamped)
  | none =>
    match id with
    | 16 => if v ≤ 1 then some ({ p with noiseFill := v == 1 }, .ok) else none
    | 17 => if v ≤ 0xFFFF ∧ 0x8000 ≤ v then some ({ p with noiseTaps := BitVec.ofNat 16 v }, .ok) else none
    | 18 => (RoundMode.ofCode v).map fun mode => ({ p with rounding := mode }, .ok)
    | _ => none

/-- The 20 values of a set in id order, 4 bytes each (R156). -/
def Params.bytes (p : Params) : List Byte := (List.range 20).flatMap fun id => le4 (p.value id)

/-! ## Line entries (R162, R166) -/

/-- Whether an action acts by level (R166). -/
def LineAction.isLevel (a : LineAction) : Bool := a == .holdLevel || a == .muteLevel

/-- Whether an argument lies in its action's range (R162). -/
def LineAction.argumentOk (a : LineAction) (arg : Nat) : Bool :=
  match a with
  | .recall => decide (arg ≤ 3)
  | .holdSpan => decide (1 ≤ arg) && decide (arg ≤ 255)
  | .commit => decide (arg ≤ 7)
  | .none => arg == 0
  | .holdLevel => arg == 0
  | .muteLevel => arg == 0
  | .muteToggle => arg == 0
  | .push => arg == 0
  | .reportOnly => arg == 0

/-- Whether an action may stand with an edge mode (R166): NONE with any, a level action with LEVEL, an event action
with an edge mode. -/
def LineAction.edgeOk (a : LineAction) (edge : EdgeMode) : Bool :=
  if a == .none then true
  else if a.isLevel then edge == .level
  else edge != .level

/-- The input entry a LINE.SET spells, where R166 accepts it. -/
def inEntryOperand (flags code argument : Byte) (mask : BitVec 16) : Option InEntry :=
  match LineAction.ofCode code.toNat with
  | some a =>
    if flags.toNat < 8 ∧ a.edgeOk (EdgeMode.ofCode (flags.toNat / 2)) ∧ a.argumentOk argument.toNat then
      some ⟨flags.getLsbD 0, EdgeMode.ofCode (flags.toNat / 2), a, argument.toNat, mask⟩
    else none
  | none => none

/-- The output entry a LINE.SET spells, where R166 accepts it. -/
def outEntryOperand (flags code argument : Byte) (mask : BitVec 16) : Option OutEntry :=
  match OutSource.ofCode code.toNat with
  | some x => if flags.toNat < 2 ∧ argument = 0#8 then some ⟨x, flags.getLsbD 0, mask⟩ else none
  | none => none

/-! ## Image headers (Table 7-1, R131) -/

/-- Byte `k` of a header as a number. -/
def headerByte (h : List Byte) (k : Nat) : Nat := (h.getD k 0#8).toNat

/-- The path count p of a header. -/
def headerPaths (h : List Byte) : Nat := headerByte h 4

/-- Reference lane of header entry `e`. -/
def headerLane (h : List Byte) (e : Nat) : Nat := headerByte h (5 + 4 * e)

/-- Lead delay of header entry `e`. -/
def headerLead (h : List Byte) (e : Nat) : Nat := headerByte h (6 + 4 * e) + 256 * headerByte h (7 + 4 * e)

/-- Segment count of header entry `e`. -/
def headerCount (h : List Byte) (e : Nat) : Nat := headerByte h (8 + 4 * e)

/-- The first entry whose lane is unconfigured or repeated, entries in header order: reason, entry and value (R131). Of two
entries with one lane the later is the failing one (assumption 33). -/
def headerLaneFailure (l : Layout) (h : List Byte) : Option (Nat × Nat × Option Nat) :=
  (List.range (headerPaths h)).findSome? fun e =>
    if l.refs ≤ headerLane h e ∨ 4 ≤ headerLane h e then some (5, e, some (headerLane h e))
    else if ((List.range e).map (headerLane h)).contains (headerLane h e) then some (6, e, some (headerLane h e))
    else none

/-- The first entry whose lead delay or segment count is out of range, entries in header order and the lead delay of an
entry before its count (R131; assumption 33). -/
def headerSizeFailure (h : List Byte) : Option (Nat × Nat × Option Nat) :=
  (List.range (headerPaths h)).findSome? fun e =>
    if Config.maxLead < headerLead h e then some (7, e, some (headerLead h e))
    else if Config.maxChain < headerCount h e then some (8, e, some (headerCount h e))
    else none

/-- Why a header is not well formed: the reason code of R131, the failing entry (255 for none) and the offending value
(none where the manual does not say which value that is). A path count outside 1..4, whatever the length, reports itself
(assumption 33). -/
def headerFailure (l : Layout) (h : List Byte) : Option (Nat × Nat × Option Nat) :=
  if headerByte h 0 ≠ 1 then some (0, 255, some (headerByte h 0))
  else if headerPaths h = 0 ∨ 4 < headerPaths h then some (1, 255, some (headerPaths h))
  else if h.length ≠ 5 + 4 * headerPaths h then some (1, 255, none)
  else if 16 ≤ headerByte h 3 then some (2, 255, some (headerByte h 3))
  else if 15 < headerByte h 1 then some (3, 255, some (headerByte h 1))
  else if 40 < headerByte h 2 then some (4, 255, some (headerByte h 2))
  else match headerLaneFailure l h with
    | some x => some x
    | none => headerSizeFailure h

/-- The settled flag and sticky flags of a header's flags byte. -/
def headerSettled (h : List Byte) : Bool := (h.getD 3 0#8).getLsbD 0

/-- The sticky flags of a header's flags byte. -/
def headerSticky (h : List Byte) : SatFlags :=
  ⟨(h.getD 3 0#8).getLsbD 1, (h.getD 3 0#8).getLsbD 2, (h.getD 3 0#8).getLsbD 3⟩

/-- The segment total S of a header (R126). -/
def headerSegments (h : List Byte) : Nat := ((List.range (headerPaths h)).map (headerCount h)).sum

/-- The header's entries in header order, each with the run of `segs` that image order gives it (R128, R132). -/
def headerEntries (h : List Byte) (segs : List SegIndex) : List PathEntry :=
  ((List.range (headerPaths h)).foldl
    (fun (acc : List PathEntry × List SegIndex) e =>
      (acc.1 ++ [⟨Fin.ofNat 4 (headerLane h e), headerLead h e, acc.2.take (headerCount h e)⟩],
        acc.2.drop (headerCount h e)))
    ([], segs)).1

end Sys2Proof.Machine
end

