-- ==== Sys2Proof/Machine/Checkpoint.lean ====
section
/-! DEFINITION. The Checkpoint Rings' operations (Chapter 6): CKPT reports, push, restore, rollback and slot commands;
and the end of an image session (R135, R137), which MIC.RESET and LAYOUT.SET share with Chapter 7's requests. -/

namespace Sys2Proof.Machine

/-! ## CKPT reports (R124) -/

/-- What a CKPT report says of the record concerned: sequence number, segments, rollback count. -/
abbrev RecordInfo := Nat × Nat × Nat

/-- The report fields of a record. -/
def CkptRecord.info (x : CkptRecord) : RecordInfo :=
  (x.sequence.toNat, entriesSegments x.entries, x.rollbacks)

/-- The report fields of the record concerned; free values where no record is (assumptions 6 and 57). -/
def State.recordInfo (info : Option RecordInfo) (s : State) : RecordInfo × State :=
  match info with
  | some x => (x, s)
  | none =>
    ((s.draw.1, s.draw.2.draw.1, s.draw.2.draw.2.draw.1), s.draw.2.draw.2.draw.2)

/-- The slot and tag bytes of a CKPT report; free values where no slot was chosen (assumption 6). -/
def State.slotInfo (m : MicLane) (k : Option SlotIndex) (s : State) : (Nat × Nat) × State :=
  match k with
  | some k => ((k.val, (s.slot m k).tag.code), s)
  | none => ((s.draw.1, s.draw.2.draw.1), s.draw.2.draw.2)

/-- A CKPT report (R124, Table 6-3): the tag is the slot's as the event leaves it, and the frame counter the one that now
stands, at an acceptance while RUNNING too (assumption 54). -/
def State.ckptReport (m : MicLane) (k : Option SlotIndex) (event cause : Nat) (info : Option RecordInfo)
    (s : State) : State :=
  let (slot, s₁) := s.slotInfo m k
  let (rec, s₂) := s₁.recordInfo info
  s₂.report .ckpt
    (byteOf m.val :: byteOf slot.1 :: byteOf event :: byteOf cause :: byteOf slot.2 ::
      (le4 rec.1 ++ le2 rec.2.1 ++ byteOf rec.2.2 :: s.counterBytes))

/-! ## Slots -/

/-- A slot is open to placement, eviction and reclamation: VALID without the exporting mark (Table 6-1). -/
def Slot.unprotected (x : Slot) : Bool := x.tag == .valid && !x.exporting

/-- A slot may be chosen by a rollback or recall: VALID or HELD (Table 6-1). -/
def Slot.restorable (x : Slot) : Bool := x.tag == .valid || x.tag == .held

/-- Release a slot's segments, path entries in record order, and make the slot EMPTY, its record and rollback count
discarded (R64). -/
def State.emptySlot (m : MicLane) (k : SlotIndex) (s : State) : State :=
  (s.modSlot m k fun x => { x with tag := .empty, record := none }).release
    ((s.slotEntries m k).flatMap PathEntry.chain)

/-- Empty a slot that holds a record and raise the CKPT report of the event (R111, R96, R122, R125, R153). -/
def State.discardSlot (m : MicLane) (k : SlotIndex) (event : Nat) (s : State) : State :=
  match (s.slot m k).record with
  | some rec => (s.emptySlot m k).ckptReport m (some k) event 0 (some rec.info)
  | none => s

/-- The slot whose record has the smallest sequence number, the first where two are equal (assumption 47). -/
def oldestSlot (cands : List ((MicLane × SlotIndex) × Nat)) : Option (MicLane × SlotIndex) :=
  (cands.foldl
    (fun best c => match best with
      | some b => if c.2 < b.2 then some c else some b
      | none => some c)
    (none : Option ((MicLane × SlotIndex) × Nat))).map Prod.fst

/-- The sequence number of a slot's record, 0 where it holds none. -/
def State.slotSequence (s : State) (m : MicLane) (k : SlotIndex) : Nat :=
  match (s.slot m k).record with
  | some rec => rec.sequence.toNat
  | none => 0

/-! ## Push (R110 to R112) -/

/-- The order in which placement looks at the slots: from the one after the top pointer round to the top (R110). -/
def placementOrder (top : SlotIndex) : List SlotIndex := [top + 1, top + 2, top + 3, top]

/-- The slot placement chooses: the first EMPTY, or VALID without the exporting mark (R110). -/
def State.placement (s : State) (m : MicLane) : Option SlotIndex :=
  (placementOrder (s.mic m).ring.top).find? fun k => (s.slot m k).tag == .empty || (s.slot m k).unprotected

/-- The room A a push may count: the free count and the segments of every slot of the microphone that is VALID and not
exporting, the chosen slot among them (R111). -/
def State.pushRoom (s : State) (m : MicLane) : Nat :=
  s.freeCount + (allSlots.map fun k => if (s.slot m k).unprotected then s.slotSegments m k else 0).sum

/-- The next slot the room step evicts: unprotected, not the chosen one, smallest sequence number (R111). -/
def State.evictee (s : State) (m : MicLane) (chosen : SlotIndex) : Option SlotIndex :=
  (oldestSlot ((allSlots.filter fun k => k != chosen && (s.slot m k).unprotected).map fun k =>
    ((m, k), s.slotSequence m k))).map Prod.snd

/-- The second room step: while the free count is below `n`, evict (R111). -/
def State.evict (m : MicLane) (chosen : SlotIndex) (n : Nat) : Nat → State → State
  | 0, s => s
  | fuel + 1, s =>
    if s.freeCount < n then
      match s.evictee m chosen with
      | some k => (s.discardSlot m k 1).evict m chosen n fuel
      | none => s
    else s

/-- Copy the chains of a microphone's enabled paths into segments of a slot, and give the entries (R112). -/
def State.copyOut (m : MicLane) (k : SlotIndex) (s : State) : List PathEntry × State :=
  (allRefs.filter (s.enabled m)).foldl
    (fun (acc : List PathEntry × State) r =>
      let segs := acc.2.nextSegments (s.path m r).chain.length
      (acc.1 ++ [⟨r, (s.path m r).lead, segs⟩],
        ((acc.2.take (s.path m r).chain.length).own (Owner.checkpoint m k r) segs).copySegments
          ((s.path m r).chain.zip segs)))
    ([], s)

/-- The next push sequence number: from 4,294,967,295 the counter wraps to 1 (R106). -/
def nextSequence (x : BitVec 32) : BitVec 32 := if x = BitVec.allOnes 32 then 1#32 else x + 1#32

/-- The copy of R112 into a slot with room made. -/
def State.copyPush (m : MicLane) (k : SlotIndex) (cause : Nat) (s : State) : State :=
  let copied := s.copyOut m k
  let record : CkptRecord :=
    { sequence := nextSequence s.pushSequence
      frame := s.frameCounter
      trim := (s.mic m).trim
      erle := (s.mic m).talk.erle
      settled := (s.mic m).talk.settled
      sticky := (s.mic m).engine.sticky
      rollbacks := 0
      entries := copied.1 }
  (({ copied.2 with pushSequence := nextSequence s.pushSequence }.modRing m fun x =>
      { x with top := k, interval := 0 }).modSlot m k fun x =>
        { x with tag := .valid, record := some record }).ckptReport m (some k) 0 cause (some record.info)

/-- What became of a push. -/
inductive PushOutcome where | pushed | ringFull | noRoom | halted
  deriving DecidableEq, Repr

/-- The RING_FULL detail byte of a slot: its tag, with 0x80 added for the exporting mark (R110). -/
def State.ringByte (s : State) (m : MicLane) (k : SlotIndex) : Nat :=
  (s.slot m k).tag.code + if (s.slot m k).exporting then 0x80 else 0

/-- A refused automatic push restarts the interval; a refused forced push leaves it (R107). -/
def State.restartInterval (m : MicLane) (forced : Bool) (s : State) : State :=
  if forced then s else s.modRing m fun x => { x with interval := 0 }

/-- A push through placement, room and copy (R110 to R112); of a refusal the fault comes before the CKPT report (assumption
16). The report of a push without room names the chosen slot and concerns no record, not even the one a VALID slot keeps: its
record fields are free values (assumption 57). -/
def State.push (m : MicLane) (forced : Bool) (s : State) : PushOutcome × State :=
  match s.placement m with
  | none =>
    (.ringFull,
      ((s.fault .ringFull (some m) (detailOf (s.ringByte m 0) (s.ringByte m 1) (s.ringByte m 2)
        (s.ringByte m 3))).ckptReport m none 10 0 none).restartInterval m forced)
  | some k =>
    if s.pushRoom m < s.micActive m then
      (.noRoom,
        ((s.fault .poolExhausted none (detailOf m.val 255 2 0)).ckptReport m (some k) 10 1 none).restartInterval m
          forced)
    else
      (.pushed,
        ((s.emptySlot m k).evict m k (s.micActive m) 4).copyPush m k (flagNat forced))

/-- A push attempt has been made for `m` at the frame end in progress. -/
def State.notePush (m : MicLane) (s : State) : State :=
  s.modWork fun w => { w with pushTaken := tablePut w.pushTaken m true }

/-- A forced push, with the halt test of R109, clearing a pending push. -/
def State.forcedPush (m : MicLane) (s : State) : PushOutcome × State :=
  let cleared := (s.modRing m fun x => { x with pushPending := false }).notePush m
  if (s.mic m).talk.halt then (.halted, cleared.ckptReport m none 10 2 none)
  else cleared.push m true

/-! ## Restore (R117 to R119) -/

/-- Outcome of a restore: 0 COPY, 1 MOVE, 2 ZERO (R116, R120). -/
inductive RestoreOutcome where | copy | move | zero
  deriving DecidableEq, Repr

/-- The code of a restore outcome. -/
def RestoreOutcome.code : RestoreOutcome → Nat
  | .copy => 0
  | .move => 1
  | .zero => 2

/-- The record's entries whose path is enabled now (R117). -/
def State.liveEntries (s : State) (m : MicLane) (rec : CkptRecord) : List PathEntry :=
  rec.entries.filter fun e => s.enabled m e.r

/-- The record's entries left out of the restore (R117). -/
def State.deadEntries (s : State) (m : MicLane) (rec : CkptRecord) : List PathEntry :=
  rec.entries.filter fun e => !s.enabled m e.r

/-- The condition ACTIVE − c + n ≤ 2048 (R117). -/
def State.restoreFits (s : State) (m : MicLane) (rec : CkptRecord) : Bool :=
  decide (s.activeCount - s.micActive m + entriesSegments (s.liveEntries m rec) ≤ Config.capacity)

/-- The copy's free condition free + c ≥ n (R117). -/
def State.copyFits (s : State) (m : MicLane) (rec : CkptRecord) : Bool :=
  decide (entriesSegments (s.liveEntries m rec) ≤ s.freeCount + s.micActive m)

/-- The outcome of a restore: the first of R117's table that applies. -/
def State.restoreChoice (s : State) (m : MicLane) (k : SlotIndex) (rec : CkptRecord) : RestoreOutcome :=
  if s.copyFits m rec && s.restoreFits m rec then .copy
  else if !s.copyFits m rec && s.restoreFits m rec && (s.slot m k).unprotected then .move
  else .zero

/-- Every lead delay of a microphone's paths becomes 0: what an enabled path with no entry takes (R117). -/
def State.clearLeads (m : MicLane) (s : State) : State := s.forEach allRefs fun r t => t.setLead m r 0

/-- One entry restored by copy: allocated, copied and placed (R117). -/
def State.copyIn (m : MicLane) (e : PathEntry) (s : State) : State :=
  (((s.take e.chain.length).copySegments (e.chain.zip (s.nextSegments e.chain.length))).setChain m e.r
    (s.nextSegments e.chain.length)).setLead m e.r e.lead

/-- One entry restored by move: its segments become the path's chain (R65, R117). -/
def State.moveIn (m : MicLane) (e : PathEntry) (s : State) : State :=
  (s.setChain m e.r e.chain).setLead m e.r e.lead

/-- The kinds whose flag is set in the record and which are unmasked in the fault table (R119). -/
def State.unmaskedFlags (s : State) (f : SatFlags) : SatFlags :=
  ⟨f.coef && !(s.faultEntry .coefSat).masked, f.est && !(s.faultEntry .estSat).masked,
    f.err && !(s.faultEntry .errSat).masked⟩

/-- Raise each restored-flag fault that is set, and clear them (R119). -/
def State.raiseRestored (m : MicLane) (s : State) : State :=
  let f := (s.mic m).ring.restored
  let cleared := s.modRing m fun x => { x with restored := .clear }
  let s₁ := if f.coef then cleared.fault .coefSat (some m) (detailOf 254 254 0 0) else cleared
  let s₂ := if f.est then s₁.fault .estSat (some m) (detailOf 254 254 0 0) else s₁
  if f.err then s₂.fault .errSat (some m) (detailOf 254 254 0 0) else s₂

/-- What a restore by copy or move sets from the record (R118, R119); the marks of the frame just ended are discarded
(R40). In PARKED the restored flags raise their faults at once, after the SETTLE report (assumption 16). -/
def State.adoptRecord (m : MicLane) (rec : CkptRecord) (s : State) : State :=
  let s₁ := s.modMic m fun x =>
    { x with
      trim := rec.trim
      trimPending := rec.trim
      engine := { x.engine with coefMark := .clear, estMark := .clear, errMark := .clear, sticky := rec.sticky }
      talk := { x.talk with erle := rec.erle, edSmooth := 0, eeSmooth := 0, divCount := 0 }
      ring := { x.ring with restored := s.unmaskedFlags rec.sticky } }
  let s₂ := s₁.setSettled m rec.settled 2
  if s₂.parked then s₂.raiseRestored m else s₂

/-- The zeroing of a rollback with no slot, and of a restore's fallback (R115). -/
def State.zeroFilter (m : MicLane) (s : State) : State :=
  ((((s.zeroInPlace m).modTalk m fun t => { t with edSmooth := 0, eeSmooth := 0, divCount := 0 }).setSettled m false
    1).dropRequests m).resetEvaluation m |>.modWork fun w => { w with replaced := tablePut w.replaced m true }

/-- What a restore of any outcome also does (R53, R118). -/
def State.afterRestore (m : MicLane) (s : State) : State :=
  (((s.dropRequests m).resetEvaluation m).modRing m fun x => { x with interval := 0, recallPending := none }).modWork
    fun w =>
      { w with restoreTaken := tablePut w.restoreTaken m true, replaced := tablePut w.replaced m true }

/-- The Copy outcome (R117). -/
def State.restoreCopy (m : MicLane) (rec : CkptRecord) (s : State) : State :=
  (((s.releaseChains m).clearLeads m).forEach (s.liveEntries m rec) (State.copyIn m)).adoptRecord m rec

/-- The Move outcome (R117). -/
def State.restoreMove (m : MicLane) (k : SlotIndex) (rec : CkptRecord) (s : State) : State :=
  (((((((s.releaseChains m).clearLeads m).forEach (s.liveEntries m rec) (State.moveIn m)).release
    ((s.deadEntries m rec).flatMap PathEntry.chain)).modSlot m k fun x =>
      { x with tag := .empty, record := none }).adoptRecord m rec).ckptReport m (some k) 4 0 (some rec.info))

/-- The Zero outcome (R117). It keeps the marks of the frame just ended: R40 has a restore discard them, and R117 gives this
outcome nothing of the record (assumption 48). POOL_EXHAUSTED comes after the SETTLE report and before the reports of the recall
or rollback (assumption 16). -/
def State.restoreZero (m : MicLane) (k : SlotIndex) (rec : CkptRecord) (s : State) : State :=
  ((s.zeroFilter m).modRing m fun x => { x with restored := .clear }).fault .poolExhausted none
    (detailOf m.val k.val 3 (if s.restoreFits m rec then 0 else 1))

/-- A restore of microphone `m` from a slot holding a record (R117, R118). -/
def State.restore (m : MicLane) (k : SlotIndex) (rec : CkptRecord) (s : State) : RestoreOutcome × State :=
  match s.restoreChoice m k rec with
  | .copy => (.copy, (s.restoreCopy m rec).afterRestore m)
  | .move => (.move, (s.restoreMove m k rec).afterRestore m)
  | .zero => (.zero, (s.restoreZero m k rec).afterRestore m)

/-- A recall of a slot, by CKPT.RECALL or a RECALL line: restored with a CKPT report RECALLED where the slot is VALID or
HELD (R120, R165); none where it is EMPTY or FILLING. -/
def State.recall (m : MicLane) (k : SlotIndex) (s : State) : Option (RestoreOutcome × State) :=
  if (s.slot m k).restorable then
    match (s.slot m k).record with
    | some rec =>
      let done := s.restore m k rec
      some (done.1, done.2.ckptReport m (some k) 3 done.1.code (some rec.info))
    | none => none
  else none

/-- Take the pending recall of a microphone, or drop it with a CKPT report DROPPED (R120). -/
def State.takeRecall (m : MicLane) (s : State) : State :=
  match (s.mic m).ring.recallPending with
  | some k =>
    let cleared := s.modRing m fun x => { x with recallPending := none }
    match cleared.recall m k with
    | some done => done.2
    | none => cleared.ckptReport m (some k) 8 Status.refusedState.code none
  | none => s

/-! ## Rollback (R114 to R116) -/

/-- The slot a rollback chooses: VALID or HELD, rollback count 0, greatest sequence number (R114), and of two records with
equal numbers the one in the lower slot (assumption 47). -/
def State.rollbackSlot (s : State) (m : MicLane) : Option (SlotIndex × CkptRecord) :=
  allSlots.foldl
    (fun best k =>
      match (s.slot m k).record with
      | some rec =>
        if (s.slot m k).restorable && rec.rollbacks == 0 then
          match best with
          | some b => if b.2.sequence.toNat < rec.sequence.toNat then some (k, rec) else some b
          | none => some (k, rec)
        else best
      | none => best)
    none

/-- The slot's rollback count is incremented, saturating at 255, where the restore left the slot standing (R114). -/
def State.countRollback (m : MicLane) (k : SlotIndex) (s : State) : State :=
  s.modSlot m k fun x => { x with record := x.record.map fun rec => { rec with rollbacks := min 255 (rec.rollbacks + 1) } }

/-- The rollback count of a slot as it stands, 0 where it holds no record (R116). -/
def State.slotRollbacks (s : State) (m : MicLane) (k : SlotIndex) : Nat :=
  match (s.slot m k).record with
  | some rec => rec.rollbacks
  | none => 0

/-- The ROLLBACK report and the DIVERGENCE fault (R116). -/
def State.rollbackReports (m : MicLane) (slot outcome sequence rollbacks erle : Nat) (s : State) : State :=
  (s.report .rollback
    (byteOf m.val :: byteOf slot :: byteOf outcome ::
      (le4 sequence ++ byteOf rollbacks :: (le2 (s.micActive m) ++ s.counterBytes)))).fault .divergence (some m)
    (detailOf slot outcome rollbacks erle)

/-- Roll microphone `m` back (R114); `erle` is the ERLE index the Talk Detector handed over. -/
def State.rollback (m : MicLane) (erle : Nat) (s : State) : State :=
  let marked := s.modWork fun w => { w with rolledBack := tablePut w.rolledBack m true }
  match s.rollbackSlot m with
  | some (k, rec) =>
    let done := marked.restore m k rec
    let counted := if done.1 = .move then done.2 else done.2.countRollback m k
    counted.rollbackReports m k.val done.1.code rec.sequence.toNat (counted.slotRollbacks m k) erle
  | none => (marked.zeroFilter m).rollbackReports m 255 3 0 0 erle

/-! ## Slot commands (R121 to R123) -/

/-- What a slot command would be answered, and whether it would have an effect (R121, R122). -/
def slotCommandStatus (c : SlotCommand) (x : Slot) : Status × Bool :=
  match c, x.tag with
  | .hold, .valid => (.ok, true)
  | .hold, .held => (.ok, false)
  | .hold, .empty => (.refusedState, false)
  | .hold, .filling => (.refusedState, false)
  | .release, .held => (.ok, true)
  | .release, .valid => (.ok, false)
  | .release, .empty => (.refusedState, false)
  | .release, .filling => (.refusedState, false)
  | .discard, .valid => if x.exporting then (.refusedBusy, false) else (.ok, true)
  | .discard, .held => if x.exporting then (.refusedBusy, false) else (.ok, true)
  | .discard, .empty => (.ok, false)
  | .discard, .filling => (.refusedBusy, false)

/-- The report fields of a slot's record, none where it holds none. -/
def State.slotRecordInfo (s : State) (m : MicLane) (k : SlotIndex) : Option RecordInfo :=
  (s.slot m k).record.map CkptRecord.info

/-- A slot command that has an effect takes it (R121, R122). -/
def State.doSlotCommand (m : MicLane) (k : SlotIndex) (c : SlotCommand) (s : State) : State :=
  match c with
  | .hold => (s.modSlot m k fun x => { x with tag := .held }).ckptReport m (some k) 5 0 (s.slotRecordInfo m k)
  | .release => (s.modSlot m k fun x => { x with tag := .valid }).ckptReport m (some k) 6 0 (s.slotRecordInfo m k)
  | .discard => s.discardSlot m k 7

/-- Take the pending command of a slot, or drop it with a CKPT report DROPPED (R123). -/
def State.takeSlotCommand (m : MicLane) (k : SlotIndex) (s : State) : State :=
  match (s.slot m k).command with
  | some c =>
    let cleared := s.modSlot m k fun x => { x with command := none }
    if (slotCommandStatus c (s.slot m k)).2 then cleared.doSlotCommand m k c
    else cleared.ckptReport m (some k) 8 (slotCommandStatus c (s.slot m k)).1.code (s.slotRecordInfo m k)
  | none => s

/-! ## Reclamation (R96) -/

/-- Every slot of the device that reclamation may take, with its sequence number (R96). -/
def State.reclaimable (s : State) : List ((MicLane × SlotIndex) × Nat) :=
  (allMics.flatMap fun m => allSlots.map fun k => (m, k)).filter (fun p => (s.slot p.1 p.2).unprotected) |>.map
    fun p => (p, s.slotSequence p.1 p.2)

/-- Reclaim the candidate with the smallest sequence number, where there is one (R96). -/
def State.reclaim (s : State) : State :=
  match oldestSlot s.reclaimable with
  | some p => s.discardSlot p.1 p.2 2
  | none => s

/-! ## Sessions (R126, R135, R137) -/

/-- Segment total S of a session (R126). -/
def Session.total (x : Session) : Nat := entriesSegments x.entries

/-- Chunk count of a session: S divided by 4, rounded up (R126). -/
def Session.chunks (x : Session) : Nat := (x.total + 3) / 4

/-- The session record as R126 tables it: lanes, lead delays and segment counts for its entries, and the two sizes
computed from them. -/
structure ImageRecord where
  /-- EXPORT or IMPORT, none for kind NONE. -/
  kind : Option SessionKind
  /-- Microphone. -/
  m : MicLane
  /-- Slot. -/
  slot : SlotIndex
  /-- Reference lane, lead delay and segment count of each path entry. -/
  entries : List (RefLane × Nat × Nat)
  /-- Segment total S. -/
  total : Nat
  /-- Chunk count. -/
  chunks : Nat
  /-- Index of the next chunk. -/
  cursor : Nat
  /-- Idle count. -/
  idle : Nat
  deriving DecidableEq, Repr

/-- The session record as it stands: with kind NONE every other field reads its power-on value (R126; assumption 9). -/
def State.imageRecord (s : State) : ImageRecord :=
  match s.session with
  | some x =>
    ⟨some x.kind, x.m, x.slot, x.entries.map fun e => (e.r, e.lead, e.chain.length), x.total, x.chunks, x.cursor,
      x.idle⟩
  | none => ⟨none, 0, 0, [], 0, 0, 0, 0⟩

/-- How a session ends (R137). -/
inductive SessionEnd where | done | closed | timeout | aborted
  deriving DecidableEq, Repr

/-- The outcome byte of an IMAGE report (R137). -/
def SessionEnd.code : SessionEnd → Nat
  | .done => 0
  | .closed => 1
  | .timeout => 2
  | .aborted => 3

/-- The IMAGE report of a session's end (R137): the sequence number is the record's exported, or created by the import,
and 0 for an import that did not complete. -/
def State.imageReport (x : Session) (outcome : SessionEnd) (cause sequence : Nat) (s : State) : State :=
  s.report .image
    (byteOf x.m.val :: byteOf x.slot.val :: byteOf x.kind.code :: byteOf outcome.code :: byteOf cause ::
      byteOf x.cursor :: byteOf x.chunks ::
        (le2 x.total ++ le4 sequence ++ byteOf (s.slot x.m x.slot).tag.code :: s.counterBytes))

/-- End an export: the exporting mark is removed and the kind becomes NONE (R130, R135). -/
def State.endExport (x : Session) (outcome : SessionEnd) (cause : Nat) (s : State) : State :=
  ({ s with session := none }.modSlot x.m x.slot fun y => { y with exporting := false }).imageReport x outcome cause
    (s.slotSequence x.m x.slot)

/-- End an import early: the reserved segments are released in header order and the slot becomes EMPTY (R135). -/
def State.abandonImport (x : Session) (outcome : SessionEnd) (cause : Nat) (s : State) : State :=
  (({ s with session := none }.modSlot x.m x.slot fun y => { y with tag := .empty, record := none }).release
    (x.entries.flatMap PathEntry.chain)).imageReport x outcome cause 0

/-- End a session before completion (R135). -/
def State.endSession (x : Session) (outcome : SessionEnd) (cause : Nat) (s : State) : State :=
  match x.kind with
  | .exporting => s.endExport x outcome cause
  | .importing => s.abandonImport x outcome cause

/-- Abort the open session where it is on microphone `m`; the cause is 0 MIC.RESET, 1 LAYOUT.SET (R135, R137). -/
def State.abortSession (m : MicLane) (cause : Nat) (s : State) : State :=
  match s.session with
  | some x => if x.m = m then s.endSession x .aborted cause else s
  | none => s

end Sys2Proof.Machine
end

