-- ==== Sys2Proof/Machine/MicState.lean ====
section
/-! DEFINITION. Changes of one microphone that requests and frame ends share: the trim change with its rescale
(R16, R17), the taking of host flags (R57, R144, R145) and the seven steps of MIC.RESET (R159). -/

namespace Sys2Proof.Machine

/-! ## Saturation marks (R38) -/

/-- Note `n` clamps in a mark, the first of them at a sample position and lane (R38). -/
def Mark.note (position lane n : Nat) (x : Mark) : Mark :=
  if n = 0 then x
  else if x.raised then { x with tally := bump n x.tally }
  else ⟨true, bump n 0, position, lane⟩

/-- The detail bytes of a saturation fault (R38). -/
def Mark.detail (x : Mark) : Detail := detailOf x.position x.lane x.tally (x.tally / 256)

/-! ## Trim change (R16, R17) -/

/-- A coefficient rescaled and clamped (R17). -/
def rescaled (mode : RoundMode) (a b : Nat) (w : Int) : Int := sat24 (rescaledRaw mode a b w)

/-- How many of 64 coefficients the clamp of R17 changes. -/
def rescaleClamps (mode : RoundMode) (a b : Nat) (coefs : Vector Int 64) : Nat :=
  (coefs.toList.filter fun w => rescaledRaw mode a b w != rescaled mode a b w).length

/-- The segments of a microphone's chains, paths in ascending reference lane. -/
def State.micSegments (s : State) (m : MicLane) : List SegIndex := allRefs.flatMap fun r => (s.path m r).chain

/-- Rescale every ACTIVE coefficient of a microphone (R17). -/
def State.rescale (m : MicLane) (mode : RoundMode) (a b : Nat) (s : State) : State :=
  s.forEach (s.micSegments m) fun i t => t.modSegment i fun x => { x with coefs := tableMap (rescaled mode a b) x.coefs }

/-- The clamps a rescale of a microphone makes (R17). -/
def State.rescaleTally (s : State) (m : MicLane) (mode : RoundMode) (a b : Nat) : Nat :=
  ((s.micSegments m).map fun i => rescaleClamps mode a b (s.segment i).coefs).sum

/-- The COEF_SAT event of a rescale that clamped `n` coefficients: sticky flag at once, and the fault at acceptance in
PARKED or with the frame end's conversion of marks in RUNNING (R17, R38). -/
def State.noteRescale (m : MicLane) (n : Nat) (s : State) : State :=
  if n = 0 then s
  else
    let stuck := s.modEngine m fun e => { e with sticky := { e.sticky with coef := true } }
    if s.parked then stuck.fault .coefSat (some m) (Mark.clear.note 255 255 n).detail
    else stuck.modEngine m fun e => { e with coefMark := e.coefMark.note 255 255 n }

/-- Apply a pending trim step that differs from the current one (R16). -/
def State.applyTrim (m : MicLane) (s : State) : State :=
  if (s.mic m).trim = (s.mic m).trimPending then s
  else
    ((s.rescale m s.governing.rounding (s.mic m).trim (s.mic m).trimPending).modMic m fun x =>
      { x with trim := x.trimPending }).noteRescale m
        (s.rescaleTally m s.governing.rounding (s.mic m).trim (s.mic m).trimPending)

/-! ## Host flags (R57, R144, R145) -/

/-- The pending host freeze flag of a microphone becomes current (R57). -/
def State.takeFreeze (m : MicLane) (s : State) : State := s.modTalk m fun x => { x with freeze := x.freezePending }

/-- The pending host mute flag of a microphone becomes current (R145). -/
def State.takeMute (m : MicLane) (s : State) : State := s.modOut m fun x => { x with mute := x.mutePending }

/-- The pending output source of a microphone becomes current (R144). -/
def State.takeSource (m : MicLane) (s : State) : State := s.modOut m fun x => { x with source := x.sourcePending }

/-- The pending host freeze flag, host mute flag and output source of a microphone become current. -/
def State.takeHostFlags (m : MicLane) (s : State) : State :=
  s.modMic m fun x =>
    { x with
      talk := { x.talk with freeze := x.talk.freezePending }
      out := { x.out with mute := x.out.mutePending, source := x.out.sourcePending } }

/-! ## MIC.RESET (R159) -/

/-- Step 2: the VALID slots released with CKPT reports RESET, the ring's pending work and counts cleared. -/
def State.resetRing (m : MicLane) (s : State) : State :=
  (s.forEach allSlots fun k t => if (t.slot m k).tag = .valid then t.discardSlot m k 9 else t).modRing m fun x =>
    { x with
      slots := tableMap (fun y => { y with command := none }) x.slots
      interval := 0
      pushPending := false
      recallPending := none
      restored := .clear }

/-- Step 3: queued requests removed and pending limits discarded. -/
def State.resetRequests (m : MicLane) (s : State) : State :=
  (s.dropRequests m).forEach allRefs fun r t => t.modPath m r fun p => { p with limits := none }

/-- What the free count and the capacity still allow of a share (R72). -/
def State.allowance (s : State) (share : Nat) : Nat :=
  min share (min s.freeCount (Config.capacity - s.activeCount))

/-- Step 4: the chains released, then reallocated path by path (R72), and the evaluation counts reset. -/
def State.resetChains (m : MicLane) (s : State) : State :=
  ((((s.releaseChains m).clearLeads m).forEach (allRefs.filter (s.enabled m)) fun r t =>
    t.allocateChain m r (t.allowance (min t.layout.initialSegs (t.path m r).maxSegs))).resetEvaluation m)

/-- Step 5: frame energies, marks and sticky flags. -/
def EngineRecord.micReset (e : EngineRecord) : EngineRecord :=
  { e with
    ed := 0
    ey := 0
    ee := 0
    coefMark := .clear
    estMark := .clear
    errMark := .clear
    sticky := .clear }

/-- Step 6: the MIC.RESET row of R59; the level-hold cause is the lines'. -/
def TalkRecord.micReset (t : TalkRecord) : TalkRecord :=
  { t with
    talk := .quiet
    nearHang := 0
    farHang := 0
    edSmooth := 0
    eeSmooth := 0
    erle := 0
    settled := false
    divCount := 0
    freeze := false
    freezePending := false
    halt := false }

/-- Step 7: the MIC.RESET row of R148. -/
def OutRecord.micReset (m : MicLane) (o : OutRecord) : OutRecord :=
  { o with gain := 32767, floor := 2 ^ 30, amplitude := 32768, generator := noiseSeed m.val }

/-- Steps 5 to 7 on the microphone's record, its mode derived from the causes this leaves. -/
def Mic.reset (m : MicLane) (x : Mic) : Mic :=
  { x with
    engine := x.engine.micReset
    talk := { x.talk.micReset with mode := deriveMode x.talk.micReset 0 }
    out := x.out.micReset m
    holdSpan := 0
    haltKinds := 0#16
    resetPending := false }

/-- The SETTLE report of step 6: raised when the flag was set before the frame end, or is set when the reset is taken
(R53, R159, assumption 12). -/
def State.resetSettle (m : MicLane) (wasSet : Bool) (s : State) : State :=
  if wasSet then s.settleReport m 3 else s

/-- The reset of microphone `m`, through its seven steps (R159). -/
def State.micReset (m : MicLane) (s : State) : State :=
  (((((s.abortSession m 0).resetRing m).resetRequests m).resetChains m).modMic m (Mic.reset m)).resetSettle m
      (s.settledBefore m || (s.mic m).talk.settled) |>.modWork fun w =>
    { w with
      resetTaken := tablePut w.resetTaken m true
      replaced := tablePut w.replaced m true
      handover := tablePut w.handover m none }

end Sys2Proof.Machine
end

