-- ==== Sys2Proof/Machine/Talk.lean ====
section
/-! DEFINITION. The Talk Detector's frame-end work for one microphone (R43 to R52) and the Suppressor's noise floor
(R140), which reads the same frame and which the Talk Detector's work at that frame end must not see. -/

namespace Sys2Proof.Machine

/-- The far test (R44): some configured reference is not lost and louder than FAR_LEVEL. -/
def State.farTest (s : State) (p : Params) : Bool :=
  !s.lossState && s.configuredRefs.any fun r => decide (p.farLevel < (s.ref r).level)

/-- M of the coupling test: the largest level among the references not lost, 0 when all are (R45). -/
def State.loudest (s : State) : Nat :=
  if s.lossState then 0 else s.configuredRefs.foldl (fun best r => max best (s.ref r).level) 0

/-- The coupling test (R45). -/
def couplingTest (ed floor loudest coupling : Nat) : Bool :=
  decide (loudest * coupling < ed * 16) && decide (2 * floor < ed)

/-- The residual test (R46). -/
def residualTest (ee ey floor ratio : Nat) : Bool := decide (ey * ratio + 32 * floor < ee * 16)

/-- The near test, its form chosen by the settled flag as the frame before left it (R43, R45, R46). -/
def State.nearTest (s : State) (p : Params) (m : MicLane) : Bool :=
  if s.settledBefore m then
    residualTest (s.mic m).engine.ee (s.mic m).engine.ey (s.mic m).out.floor p.nearRatio
  else couplingTest (s.mic m).engine.ed (s.mic m).out.floor s.loudest p.coupling

/-- Presence and hangover after a test (R47). -/
def hangover (test : Bool) (load before : Nat) : Bool × Nat :=
  if test then (true, load) else (decide (0 < before), before - 1)

/-- The talk state two presences give (R48). -/
def talkOf (far near : Bool) : TalkState :=
  match far, near with
  | false, false => .quiet
  | true, false => .far
  | false, true => .near
  | true, true => .double

/-- A MIC.RESET of `m` is still to be taken at this frame end, which therefore raises no TALK report for it (R53). -/
def State.resetComing (s : State) (m : MicLane) (w : FrameWork) : Bool :=
  (s.mic m).resetPending && w.todo.contains (.reset m)

/-- Steps 1 and 2 of R43: tests, hangovers, talk state and, unless a reset of `m` is coming, the TALK report. -/
def State.judgeTalk (m : MicLane) (p : Params) (resetComing : Bool) (s : State) : State :=
  let far := hangover (s.farTest p) p.farHang (s.mic m).talk.farHang
  let near := hangover (s.nearTest p m) p.nearHang (s.mic m).talk.nearHang
  let next := talkOf far.1 near.1
  let judged := s.modTalk m fun t => { t with talk := next, farHang := far.2, nearHang := near.2 }
  if next = (s.mic m).talk.talk ∨ resetComing = true then judged
  else judged.report .talk
    (byteOf m.val :: byteOf (s.mic m).talk.talk.code :: byteOf next.code :: s.counterBytes)

/-- The settled flag after an adapting frame (R51). -/
def settledAfter (before : Bool) (index threshold : Nat) : Bool :=
  if before then decide (threshold - 4 ≤ index) else decide (threshold ≤ index)

/-- The divergence count after an adapting frame, and whether there is a divergence event (R52). -/
def divergenceAfter (ee ed before frames : Nat) : Nat × Bool :=
  if ed < ee then
    if frames ≤ before + 1 then (0, true) else (before + 1, false)
  else (0, false)

/-- Step 3 of R43 for an adapting frame: smoothed energies, ERLE index, settled flag, divergence count. -/
def State.measure (m : MicLane) (p : Params) (s : State) : State :=
  let e := (s.mic m).engine
  let t := (s.mic m).talk
  let edSmooth := smooth t.edSmooth e.ed
  let eeSmooth := smooth t.eeSmooth e.ee
  let index := erleIndex edSmooth eeSmooth
  (s.modTalk m fun x =>
    { x with
      edSmooth := edSmooth
      eeSmooth := eeSmooth
      erle := index
      divCount := (divergenceAfter e.ee e.ed t.divCount p.divFrames).1 }).setSettled m
    (settledAfter t.settled index p.settleIndex) 0

/-- What step 3 leaves for the Checkpoint Rings (R43): `measured` says whether step 3 was performed. -/
def State.handoverOf (s : State) (m : MicLane) (measured event told : Bool) : Handover where
  erle := (s.mic m).talk.erle
  settled := (s.mic m).talk.settled
  calm := measured && decide ((s.mic m).engine.ee ≤ (s.mic m).engine.ed)
  event := event
  told := told

/-- The noise floor and the comfort-noise amplitude after the frame (R140, R142). -/
def State.trackFloor (m : MicLane) (s : State) : State :=
  s.modOut m fun o =>
    { o with
      floor := floorAfter o.floor (s.mic m).engine.ee
      amplitude := floorSqrt (floorAfter o.floor (s.mic m).engine.ee) }

/-- The Talk Detector's work for `m` (R43) and then the noise floor (R140). A reset already taken at this frame end
leaves none of it to perform (R53, R140); a restore already taken leaves step 3 out (R53). -/
def State.talkWork (m : MicLane) (w : FrameWork) (s : State) : State :=
  if w.resetTaken.get m then s
  else
    let judged := s.judgeTalk m w.governing (s.resetComing m w)
    let adapts := w.adapting.get m && !w.restoreTaken.get m
    let measured := if adapts then judged.measure m w.governing else judged
    let event := adapts &&
      (divergenceAfter (s.mic m).engine.ee (s.mic m).engine.ed (s.mic m).talk.divCount w.governing.divFrames).2
    let told := !s.resetComing m w && (judged.mic m).talk.talk != (s.mic m).talk.talk
    (measured.modWork fun x =>
      { x with handover := tablePut x.handover m (some (measured.handoverOf m adapts event told)) }).trackFloor m

end Sys2Proof.Machine
end

