-- ==== Sys2Proof/Machine/TailManager.lean ====
section
/-! DEFINITION. The Tail Manager (Chapter 5): minimum fill (R78), evaluation (R86 to R92), granting and reclamation
(R94 to R96), waiting and timeout (R98), and the POOL report (R101). -/

namespace Sys2Proof.Machine

/-! ## Enqueuing -/

/-- A request joins the tail of the growth queue with its wait count at 0 (R90, R93). -/
def State.enqueue (m : MicLane) (r : RefLane) (kind : GrowKind) (s : State) : State :=
  { s with queue := s.queue ++ [⟨m, r, kind, 0⟩] }

/-- Minimum fill of one path (R78): where granting has been taken first, a path that has just been granted a segment and is still
short is enqueued again at the same frame end (assumption 62). -/
def State.minFillPath (m : MicLane) (r : RefLane) (s : State) : State :=
  if s.enabled m r ∧ (s.path m r).chain.length < (s.path m r).minSegs ∧ s.queued m r = false then
    s.enqueue m r .tail
  else s

/-- Minimum fill, in ascending path number (R78). -/
def State.minFill (s : State) : State := s.forEach allPaths fun p t => t.minFillPath p.1 p.2

/-! ## Evaluation -/

/-- Total energy T of a path (R37). -/
def State.totalEnergy (s : State) (m : MicLane) (r : RefLane) : Nat :=
  ((s.path m r).chain.map fun i => (s.segment i).energy).sum

/-- Energy of the first segment of a chain, 0 for an empty one. -/
def State.firstEnergy (s : State) (m : MicLane) (r : RefLane) : Nat :=
  match (s.path m r).chain.head? with
  | some i => (s.segment i).energy
  | none => 0

/-- Energy of the last segment of a chain, 0 for an empty one. -/
def State.lastEnergy (s : State) (m : MicLane) (r : RefLane) : Nat :=
  match (s.path m r).chain.getLast? with
  | some i => (s.segment i).energy
  | none => 0

/-- The tail grow and head grow tests' action: a request with its report, where the path has none queued (R90). -/
def State.wantGrowth (m : MicLane) (r : RefLane) (kind : GrowKind) (s : State) : State :=
  if s.queued m r then s
  else (s.enqueue m r kind).tailReport m r (match kind with
    | .tail => 2
    | .head => 3) 0 0

/-- The four tests of an evaluated path: the first whose conditions all hold is taken (R88). -/
def State.evaluatePath (m : MicLane) (r : RefLane) (p : Params) (s : State) : State :=
  let x := s.path m r
  let total := s.totalEnergy m r
  let first := s.firstEnergy m r
  let last := s.lastEnergy m r
  if last * 2 ^ p.tailShift < total ∧ x.minSegs < x.chain.length then
    (s.dropLast m r).tailReport m r 0 1 0
  else if first * 2 ^ p.tailShift < total ∧ x.minSegs < x.chain.length ∧ x.lead + 64 ≤ Config.maxLead then
    (s.dropFirst m r).tailReport m r 1 1 0
  else if total ≤ last * 2 ^ p.growShift ∧ x.chain.length < x.maxSegs then s.wantGrowth m r .tail
  else if total ≤ first * 2 ^ p.growShift ∧ 64 ≤ x.lead ∧ x.chain.length < x.maxSegs then s.wantGrowth m r .head
  else s

/-- Whether a path is evaluated (R87, R92); `haltedNext` says which microphones are HALTED for the next frame. -/
def State.eligible (s : State) (w : FrameWork) (haltedNext : MicLane → Bool) (m : MicLane) (r : RefLane) : Bool :=
  s.enabled m r && !(w.pinnedBefore.get m).get r &&
    decide (w.governing.adaptMin ≤ (s.path m r).openGates) && !(s.path m r).granted &&
      decide (Config.energyFloor ≤ s.totalEnergy m r) && !w.replaced.get m && !haltedNext m

/-- Open-gate counts and grant flags of every path set to 0 and clear (R85). -/
def State.clearEvaluation (s : State) : State := s.forEach allMics State.resetEvaluation

/-- The evaluation of an evaluation frame end, paths in ascending path number (R86, R87). -/
def State.evaluate (w : FrameWork) (haltedNext : MicLane → Bool) (s : State) : State :=
  { (s.forEach allPaths fun p t =>
      if t.eligible w haltedNext p.1 p.2 then t.evaluatePath p.1 p.2 w.governing else t).clearEvaluation with
    rebalance := 0 }

/-! ## Granting (R94 to R96) -/

/-- Why the head is removed without a grant: REMOVED_MAX 7 or REMOVED_DELAY 8 (R94, step 1); REMOVED_MAX where both hold
(assumption 50). -/
def State.invalidCause (s : State) (q : GrowRequest) : Option Nat :=
  if (s.path q.m q.r).maxSegs ≤ (s.path q.m q.r).chain.length then some 7
  else if q.kind = .head ∧ (s.path q.m q.r).lead < 64 then some 8
  else none

/-- The head is blocked by capacity (R94, step 2). -/
def State.blockedByCapacity (s : State) : Bool := s.activeCount == Config.capacity

/-- The head is blocked by the free list (R94, step 2). -/
def State.blockedByFreeList (s : State) : Bool := !s.blockedByCapacity && s.freeList.isEmpty

/-- The head is blocked. -/
def State.blocked (s : State) : Bool := s.blockedByCapacity || s.blockedByFreeList

/-- The head request leaves the queue. -/
def State.popQueue (s : State) : State := { s with queue := s.queue.tail }

/-- A grant to the head request (R95): one segment appended or prepended, the grant flag set, the request removed, and a
TAIL report GRANT_TAIL 4 or GRANT_HEAD 5. A request that minimum fill enqueued after a restore or reset of this frame end
lengthens the chain and sets the flag like any other, where R80 says that the microphone leaves the frame end with the chains
the reset sets up, and R92 with its flags clear (assumption 59). -/
def State.grantHead (q : GrowRequest) (s : State) : State :=
  match q.kind with
  | .tail => (((s.append q.m q.r).modPath q.m q.r fun p => { p with granted := true }).popQueue).tailReport q.m q.r 4 1
      q.waited
  | .head => (((s.prepend q.m q.r).modPath q.m q.r fun p => { p with granted := true }).popQueue).tailReport q.m q.r 5 1
      q.waited

/-- Removal of an invalid head (R94, step 1). -/
def State.removeHead (q : GrowRequest) (cause : Nat) (s : State) : State :=
  s.popQueue.tailReport q.m q.r cause 0 q.waited

/-- What one round of R94 did. -/
inductive Round where
  /-- The queue is empty, or its head is blocked: granting ends. -/
  | ended (s : State)
  /-- An invalid head was removed. -/
  | removed (s : State)
  /-- The head was granted. -/
  | granted (s : State)

/-- One round of R94: validity, room with at most one reclamation, grant. -/
def State.grantRound (s : State) : Round :=
  match s.queue with
  | [] => .ended s
  | q :: _ =>
    match s.invalidCause q with
    | some cause => .removed (s.removeHead q cause)
    | none =>
      if s.blockedByCapacity then .ended s
      else if s.freeList.isEmpty then
        if s.reclaim.freeList.isEmpty then .ended s.reclaim else .granted (s.reclaim.grantHead q)
      else .granted (s.grantHead q)

/-- Granting: the rounds of R94 until the queue is empty or its head blocked. Each round but the last removes a request,
so the queue's length bounds them. -/
def State.grantAll : Nat → State → State
  | 0, s => s
  | fuel + 1, s =>
    match s.grantRound with
    | .ended t => t
    | .removed t => t.grantAll fuel
    | .granted t => t.grantAll fuel

/-- Rounds until one grant is made; none when granting ends without one. -/
def State.grantOnce : Nat → State → Option State
  | 0, _ => none
  | fuel + 1, s =>
    match s.grantRound with
    | .ended _ => none
    | .removed t => t.grantOnce fuel
    | .granted t => some t

/-! ## Waiting and timeout (R98) -/

/-- Removal by timeout: POOL_EXHAUSTED and then a TAIL report TIMEOUT (R98; assumption 16). -/
def State.timeoutHead (q : GrowRequest) (s : State) : State :=
  (s.popQueue.fault .poolExhausted none
    (detailOf q.m.val q.r.val q.kind.code (if s.blockedByCapacity then 1 else 0))).tailReport q.m q.r 6 0 q.waited

/-- Once granting has ended: a blocked head waits, or is removed when its wait count stands at 125 (R98). -/
def State.waitHead (s : State) : State :=
  match s.queue with
  | [] => s
  | q :: rest =>
    if s.blocked then
      if Config.waitLimit ≤ q.waited then s.timeoutHead q
      else { s with queue := { q with waited := q.waited + 1 } :: rest }
    else s

/-- Granting and waiting of one frame end (R94, R98). -/
def State.serveQueue (s : State) : State := (s.grantAll (s.queue.length + 1)).waitHead

/-- Whether the head would be removed by timeout (R98). -/
def State.headTimesOut (s : State) : Bool :=
  match s.queue with
  | [] => false
  | q :: _ => s.blocked && decide (Config.waitLimit ≤ q.waited)

/-! ## The POOL report (R101) -/

/-- The test of the free count against POOL_LOW (R101). -/
def State.testPool (p : Params) (s : State) : State :=
  if s.freeCount < p.poolLow then
    if s.lowPool then s else { s with lowPool := true }.poolReport
  else { s with lowPool := false }

end Sys2Proof.Machine
end

