-- ==== Sys2Proof/Machine/Lines.lean ====
section
/-! DEFINITION. The Line Controller (Chapter 10): sampling and latches (R162, R163), events and levels (R163), actions
(R164, R165), LINE reports (R169) and the taking of entries (R166). -/

namespace Sys2Proof.Machine

/-! ## Sampling -/

/-- The level of a line as its entry reads it. -/
def InEntry.read (e : InEntry) (level : Bool) : Bool := xor level e.invert

/-- Whether a change from the last sample to this one is an edge the line latches (R163). -/
def InLine.edgeSeen (x : InLine) (level : Bool) : Bool :=
  x.entry.action != .none &&
    match x.entry.edge with
    | .rising => !x.entry.read x.last && x.entry.read level
    | .falling => x.entry.read x.last && !x.entry.read level
    | .level => false
    | .both => false

/-- One line sampled at the start of a capture sample period; latches are set only while RUNNING (R162, R163). -/
def InLine.sample (running : Bool) (level : Bool) (x : InLine) : InLine :=
  { x with latch := x.latch || (running && x.edgeSeen level), last := level }

/-- The eight pins sampled (R162). -/
def State.sampleLines (pins : BitVec 8) (s : State) : State :=
  s.forEach allInLines fun k t => t.modInLine k (InLine.sample (!t.parked) (pins.getLsbD k.val))

/-! ## Step 1: events and levels (R163) -/

/-- In BOTH, the frame-end level differs from the last frame-end level. -/
def InLine.frameEdge (x : InLine) : Bool :=
  x.entry.edge == .both && x.entry.read x.last != x.entry.read x.lastFrame

/-- The event of a line at the frame end (R163). -/
def InLine.event (x : InLine) : Option LineEvent :=
  if x.entry.action == .none || x.entry.edge == .level then none
  else if x.latch || x.frameEdge || x.pulse then some ⟨x.entry, x.latch || x.frameEdge, x.pulse⟩
  else none

/-- Whether the line is active at the frame end (R163). -/
def InLine.activeNow (x : InLine) : Bool :=
  x.entry.action != .none && x.entry.edge == .level && x.entry.read x.last

/-- Step 1 on a line: active flag, latch and pulse cleared, level recorded (R163). -/
def InLine.closeFrame (x : InLine) : InLine :=
  { x with active := x.activeNow, latch := false, pulse := false, lastFrame := x.last }

/-- Some line with a level action is active with `m` in its mask (R164). -/
def State.levelCause (s : State) (a : LineAction) (m : MicLane) : Bool :=
  s.inLines.toList.any fun x => x.entry.action == a && x.activeNow && maskHas x.entry.mask m

/-- The event of line `k` at step 1: none where its pending entry has been taken at this frame end (R166, R167). -/
def State.lineEvent (s : State) (w : FrameWork) (k : InLineIndex) : Option LineEvent :=
  if w.entryTaken.get k then none else (s.inLines.get k).event

/-- Step 1 of R163 for every line. -/
def State.formLines (s : State) : State :=
  { s with inLines := tableMap InLine.closeFrame s.inLines }.modWork fun w =>
    { w with
      events := tabulate 8 fun k => s.lineEvent w (Fin.ofNat 8 k)
      holdFormed := tabulate 16 fun m => s.levelCause .holdLevel (Fin.ofNat 16 m)
      muteFormed := tabulate 16 fun m => s.levelCause .muteLevel (Fin.ofNat 16 m) }

/-! ## Step 2: hold spans (R163) -/

/-- Every hold-span countdown above 0 is decremented (R163). -/
def State.countSpans (s : State) : State :=
  { s with mics := tableMap (fun x => { x with holdSpan := x.holdSpan - 1 }) s.mics }

/-! ## Step 3: actions (R165) -/

/-- A LINE report (R169): the outcome is 0 DONE, 1 NO_SLOT, 2 BUSY. -/
def State.lineReport (k : InLineIndex) (ev : LineEvent) (outcome : Nat) (acted left : BitVec 16) (s : State) : State :=
  s.report .line
    (byteOf k.val :: byteOf ev.entry.action.code ::
      byteOf (if ev.edge && ev.pulse then 2 else if ev.pulse then 1 else 0) :: byteOf outcome ::
        (le2 acted.toNat ++ le2 left.toNat ++ s.counterBytes))

/-- The configured microphones of a mask, as a mask (R169). -/
def State.actedMask (s : State) (mask : BitVec 16) : BitVec 16 :=
  micMask fun m => maskHas mask m && s.layout.hasMic m

/-- HOLD_SPAN: load the countdowns (R164). -/
def State.actHoldSpan (e : InEntry) (s : State) : State :=
  s.forEach (s.covered e.mask) fun m t => t.modMic m fun x => { x with holdSpan := e.argument }

/-- MUTE_TOGGLE: invert the current host mute flag and make the pending flag the same (R146). -/
def State.actMuteToggle (e : InEntry) (s : State) : State :=
  s.forEach (s.covered e.mask) fun m t => t.modOut m fun o => { o with mute := !o.mute, mutePending := !o.mute }

/-- RECALL: restore the argument slot of each masked microphone that has one (R165). The flag list says which were
restored. -/
def State.actRecall (e : InEntry) (s : State) : List MicLane × State :=
  (s.covered e.mask).foldl
    (fun (acc : List MicLane × State) m =>
      match acc.2.recall m (Fin.ofNat 4 e.argument) with
      | some done => (acc.1 ++ [m], done.2)
      | none => acc)
    ([], s)

/-- PUSH: a forced push for each masked microphone that none has been taken for at this frame end (R165), and none for
one whose MIC.RESET has been taken (R113). -/
def State.actPush (e : InEntry) (s : State) : State :=
  s.forEach (s.covered e.mask) fun m t =>
    match t.phase with
    | .taking w =>
      if w.resetTaken.get m then t
      else if w.pushTaken.get m then t.modRing m fun x => { x with pushPending := false }
      else (t.forcedPush m).2
    | .sampling => t
    | .due => t

/-- COMMIT: stage the shadow set where none is staged (R157, R165). -/
def State.actCommit (e : InEntry) (s : State) : State :=
  (s.stage .lineAction e.argument 0).modWork fun w => { w with stagedNow := true }

/-- Step 3 of R163 for one line with an event: its action, whole (assumption 42), and then its LINE report, after the reports
of the restores or pushes it makes (R169; assumption 16). -/
def State.actLine (k : InLineIndex) (ev : LineEvent) (s : State) : State :=
  match ev.entry.action with
  | .holdSpan => (s.actHoldSpan ev.entry).lineReport k ev 0 (s.actedMask ev.entry.mask) 0#16
  | .muteToggle => (s.actMuteToggle ev.entry).lineReport k ev 0 (s.actedMask ev.entry.mask) 0#16
  | .recall =>
    let done := s.actRecall ev.entry
    let acted := micMask fun m => done.1.contains m
    let left := s.actedMask ev.entry.mask &&& ~~~acted
    done.2.lineReport k ev (if left = 0#16 then 0 else 1) acted left
  | .push => (s.actPush ev.entry).lineReport k ev 0 (s.actedMask ev.entry.mask) 0#16
  | .commit =>
    if s.staged.isSome then s.lineReport k ev 2 0#16 0#16 else (s.actCommit ev.entry).lineReport k ev 0 0#16 0#16
  | .reportOnly => s.lineReport k ev 0 (s.actedMask ev.entry.mask) 0#16
  | .none => s
  | .holdLevel => s
  | .muteLevel => s

/-! ## Step 4: level causes (R164) -/

/-- The level causes handed to their owners for each configured microphone (R164). -/
def State.handLevels (w : FrameWork) (s : State) : State :=
  s.forEach s.configuredMics fun m t => t.modMic m fun x =>
    { x with
      talk := { x.talk with levelHold := w.holdFormed.get m }
      out := { x.out with lineMute := w.muteFormed.get m } }

/-! ## Entries (R166) -/

/-- Take an input line's pending entry: latch, pulse and active flag are cleared (R166). -/
def InLine.takeEntry (x : InLine) : InLine :=
  match x.pendingEntry with
  | some e => { x with entry := e, pendingEntry := none, latch := false, pulse := false, active := false }
  | none => x

/-- Take the pending entry of input line `k`, noting that one was taken (R166). -/
def State.takeInEntry (k : InLineIndex) (s : State) : State :=
  if (s.inLines.get k).pendingEntry.isSome then
    (s.modInLine k InLine.takeEntry).modWork fun w => { w with entryTaken := tablePut w.entryTaken k true }
  else s

/-- Take an output line's pending entry (R166). -/
def OutLine.takeEntry (x : OutLine) : OutLine :=
  match x.pendingEntry with
  | some e => { x with entry := e, pendingEntry := none }
  | none => x

/-- What ENGINE.PARK clears of a line (R163). -/
def InLine.park (x : InLine) : InLine := { x with latch := false, pulse := false, active := false }

/-- ENGINE.RUN sets the last frame-end level to the last sample (R163). -/
def InLine.run (x : InLine) : InLine := { x with lastFrame := x.last }

end Sys2Proof.Machine
end

