-- ==== Sys2Proof/Machine/FrameEnd.lean ====
section
/-! DEFINITION. The end of a frame (R4): what it opens with, the pieces of work it takes in an order the manual leaves
free within the constraints it states, and what closes it. Assumption 3 names the rule behind each constraint. -/

namespace Sys2Proof.Machine

/-! ## Opening: what the frame measured -/

/-- The frame level and the smoothed power of a configured reference lane (R26, R27). -/
def RefRecord.endFrame (x : RefRecord) : RefRecord :=
  { x with
    level := meanSquare x.sumSquares
    power := smooth x.power (meanSquare x.sumSquares)
    sumSquares := 0 }

/-- The frame energies of a configured microphone (R35). -/
def EngineRecord.endFrame (e : EngineRecord) : EngineRecord :=
  { e with
    ed := meanSquare e.sumD
    ey := meanSquare e.sumY
    ee := meanSquare e.sumE
    sumD := 0
    sumY := 0
    sumE := 0 }

/-- The energy of each ACTIVE segment (R36). -/
def Segment.endFrame (x : Segment) : Segment :=
  match x.owner with
  | .active _ _ _ => { x with energy := coefsEnergy x.coefs }
  | .free => x
  | .checkpoint _ _ _ _ => x

/-- The open-gate count of a path whose gate was open for the frame just ended (R85). -/
def Path.endFrame (p : Path) : Path := if p.gate then { p with openGates := min 255 (p.openGates + 1) } else p

/-- The measures of the frame just ended, and the counts that advance at every frame end before any decision: reference
levels and powers, frame energies, segment energies, open-gate counts, push interval counts, rebalance count
(R26, R27, R35, R36, R85, R107, R86; assumption 19). -/
def State.measureFrame (s : State) : State :=
  let s₁ := s.forEach s.configuredRefs fun r t => t.modRef r RefRecord.endFrame
  let s₂ := s₁.forEach s₁.configuredMics fun m t => t.modMic m fun x =>
    { x with engine := x.engine.endFrame, ring := { x.ring with interval := bump 1 x.ring.interval } }
  let s₃ := s₂.forEach s₂.enabledPaths fun p t => t.modPath p.1 p.2 Path.endFrame
  { s₃ with pool := tableMap Segment.endFrame s₃.pool, rebalance := s₃.rebalance + 1 }

/-- The work of one configured microphone. -/
def micTasks (m : MicLane) : List Task :=
  [.satFaults m, .talk m, .trim m, .forcedPush m, .autoPush m, .recall m, .slotCommand m 0, .slotCommand m 1,
    .slotCommand m 2, .slotCommand m 3, .reset m, .restoredFaults m, .rollback m, .hostFlags m]

/-- The work of the device as a whole. -/
def deviceTasks : List Task :=
  [.slips, .loss, .limits, .cuts, .minFill, .granting, .poolLow, .faultClear, .commit, .sessionIdle, .lineForm,
    .lineSpans, .lineLevels] ++ allInLines.map Task.lineAction ++ allInLines.map Task.inEntry ++
    allOutLines.map Task.outEntry

/-- The work of this frame end: evaluation only where the rebalance count has reached REBAL_FRAMES (R86). -/
def State.frameTasks (s : State) : List Task :=
  deviceTasks ++ (if s.active.rebalFrames ≤ s.rebalance then [Task.evaluation] else []) ++
    s.configuredMics.flatMap micTasks

/-- The frame work at its opening, from the state the frame's samples left and with the list of work. -/
def State.openingWork (s : State) (todo : List Task) : FrameWork where
  todo := todo
  governing := s.active
  nextChoice := s.drawn
  loss := none
  adapting := tableMap (fun x => x.talk.mode == .live && x.talk.talk == .far) s.mics
  settledBefore := tableMap (fun x => x.talk.settled) s.mics
  pinnedBefore := tableMap (tableMap fun p => p.pinned) s.paths
  resetTaken := tabulate 16 fun _ => false
  restoreTaken := tabulate 16 fun _ => false
  replaced := tabulate 16 fun _ => false
  pushTaken := tabulate 16 fun _ => false
  rolledBack := tabulate 16 fun _ => false
  haltSet := tabulate 16 fun _ => 0#16
  pushRefused := tabulate 16 fun _ => false
  outlook :=
    { halted := tableMap (fun x => x.talk.halt) s.mics
      live := tableMap (fun x => deriveMode x.talk x.holdSpan == .live) s.mics }
  grantBegun := false
  entryTaken := tabulate 8 fun _ => false
  handover := tabulate 16 fun _ => none
  events := tabulate 8 fun _ => none
  holdFormed := tabulate 16 fun _ => false
  muteFormed := tabulate 16 fun _ => false
  stagedNow := false

/-- Open the frame end that is due; a frame end already open stands, and nothing opens while samples are being taken. -/
def State.openFrame (s : State) : State :=
  match s.phase with
  | .due => { s.measureFrame with phase := .taking (s.openingWork s.measureFrame.frameTasks) }
  | .sampling => s
  | .taking _ => s

/-! ## The order of the work -/

/-- The event of line `k` at this frame end is a PUSH for microphone `m` (R165). -/
def FrameWork.linePushes (w : FrameWork) (k : InLineIndex) (m : MicLane) : Bool :=
  match w.events.get k with
  | some ev => ev.entry.action == .push && maskHas ev.entry.mask m
  | none => false

/-- Whether `t` must wait while `u` is still to be taken (assumption 3 gives the rule for each line). An automatic push waits
for the pushes that would take its place (R108), and comes before or after a restore of its microphone, a RECALL line's among
them (R113). A forced push waits for no talk work: R113 orders the push decision after it, and a forced push decides nothing
(assumption 51). Minimum fill and granting wait for neither of the two, as R100 says, frame 0 among the frames, where R103's last
paragraph has a path left short in PARKED gain its first segment at the end of frame 0 and one more at each later frame end
(assumption 62). -/
def Task.waitsFor (w : FrameWork) (t u : Task) : Bool :=
  match t, u with
  | .talk _, .loss => true
  | .satFaults m, .trim m' => m == m'
  | .evaluation, .talk _ => true
  | .evaluation, .granting => w.grantBegun
  | .minFill, .granting => w.grantBegun
  | .autoPush m, .talk m' => m == m'
  | .autoPush m, .forcedPush m' => m == m'
  | .autoPush _, .lineForm => true
  | .autoPush m, .lineAction k => w.linePushes k m
  | .rollback m, .talk m' => m == m'
  | .reset m, .rollback m' => m == m' && (match w.handover.get m with
    | some h => h.event
    | none => false)
  | .lineSpans, .lineForm => true
  | .lineAction _, .lineForm => true
  | .lineAction _, .lineSpans => true
  | .lineAction k, .lineAction j => decide (j < k)
  | .lineLevels, .lineForm => true
  | .lineLevels, .lineSpans => true
  | .lineLevels, .lineAction _ => true
  | _, _ => false

/-- Whether nothing still to be taken holds `t` back. -/
def FrameWork.ready (w : FrameWork) (t : Task) : Bool := w.todo.all fun u => !t.waitsFor w u

/-- The piece of work a choice picks: the first ready and selected one, counting from the choice round the list. Every
ready and selected piece is picked by some choice. -/
def FrameWork.pick (w : FrameWork) (choice : Nat) (select : Task → Bool) : Option Task :=
  (w.todo.rotate (choice % w.todo.length)).find? fun t => select t && w.ready t

/-! ## The pieces of work -/

/-- REF_SLIP of the frame's tallies, which return to 0 (R8). An overrun between the sample at position 127 and this piece of
work is counted for the frame that is ending, one after it for the next (assumption 40). -/
def State.reportSlips (s : State) : State :=
  if s.port.underrunTally = 0 ∧ s.port.overrunTally = 0 then s
  else
    { s with port := { s.port with underrunTally := 0, overrunTally := 0 } }.fault .refSlip none
      (detailOf s.port.underrunTally (s.port.underrunTally / 256) s.port.overrunTally (s.port.overrunTally / 256))

/-- A REFERENCE report: 0 LOST, 1 BACK (R10). -/
def State.referenceReport (event : Nat) (s : State) : State :=
  s.report .reference (byteOf event :: (le2 s.port.underruns ++ le2 s.port.overruns ++ s.counterBytes))

/-- The silence count after the frame (R9). -/
def RefPort.silenceAfter (p : RefPort) : Nat := if p.arrived then 0 else min Config.lossCount (p.silence + 1)

/-- Whether the port becomes lost at this frame end (R9). -/
def RefPort.becomesLost (p : RefPort) : Bool := !p.lost && p.silenceAfter == Config.lossCount

/-- The port becomes lost: FIFO flushed, fills and S_r zeroed, REF_LOST and a REFERENCE report LOST (R9, R28), the fault's
report first (assumption 16). The manual states no detail bytes for REF_LOST: they are free values (assumption 39). -/
def State.losePort (s : State) : State :=
  (({ s with
      port := { s.port with fifo := [], lost := true }
      refs := tableMap (fun x : RefRecord => { x with fill := 0, power := 0 }) s.refs }.fault .refLost none
    (detailOf (Config.lossDetail s.drawn 0) (Config.lossDetail s.drawn 1) (Config.lossDetail s.drawn 2)
      (Config.lossDetail s.drawn 3))).referenceReport 0)

/-- The loss decision of a frame end, held for the rest of it (R9). -/
def State.judgeLoss (s : State) : State :=
  let counted := { s with port := { s.port with silence := s.port.silenceAfter, arrived := false } }
  let judged := if s.port.becomesLost then counted.losePort else counted
  judged.modWork fun w => { w with loss := some judged.port.lost }

/-- One saturation kind's mark converted: the sticky flag and one fault (R38). -/
def State.convertMark (m : MicLane) (k : FaultKind) (mark : Mark) (stick : SatFlags → SatFlags) (s : State) : State :=
  if mark.raised then
    (s.modEngine m fun e => { e with sticky := stick e.sticky }).fault k (some m) mark.detail
  else s

/-- The conversion of a microphone's marks, which are cleared for the next frame (R38). -/
def State.convertMarks (m : MicLane) (s : State) : State :=
  let e := (s.mic m).engine
  (((s.modEngine m fun x => { x with coefMark := .clear, estMark := .clear, errMark := .clear }).convertMark m .coefSat
    e.coefMark fun f => { f with coef := true }).convertMark m .estSat e.estMark fun f => { f with est := true
      }).convertMark m .errSat e.errMark fun f => { f with err := true }

/-- Restored-flag faults set before this frame end; those a restore set at this one wait for the next (R119). R38's "at
most one fault of each kind" is read of the marks alone (assumption 44). -/
def State.takeRestored (m : MicLane) (w : FrameWork) (s : State) : State :=
  if w.restoreTaken.get m then s else s.raiseRestored m

/-- A pending CKPT.PUSH, where no push has been attempted for the microphone (R109, R165). -/
def State.takePush (m : MicLane) (w : FrameWork) (s : State) : State :=
  if (s.mic m).ring.pushPending then
    if w.pushTaken.get m then s.modRing m fun x => { x with pushPending := false } else (s.forcedPush m).2
  else s

/-- The Talk Detector has raised a TALK report for `m` at this frame end, with no MIC.RESET of it then pending (R53). -/
def FrameWork.told (w : FrameWork) (m : MicLane) : Bool :=
  match w.handover.get m with
  | some h => h.told
  | none => false

/-- A pending MIC.RESET (R159). One accepted since a TALK report of this frame end stays pending for the next: a frame end
that takes a reset of `m` raises no TALK report for it (R53; assumption 4). -/
def State.takeReset (m : MicLane) (w : FrameWork) (s : State) : State :=
  if (s.mic m).resetPending && !w.told m then s.micReset m else s

/-- A pending recall still to be taken at this frame end, put back after a restore that is not its own (R120). -/
def State.keepRecall (m : MicLane) (w : FrameWork) (pending : Option SlotIndex) (s : State) : State :=
  match pending with
  | some k => if w.todo.contains (.recall m) then s.modRing m fun x => { x with recallPending := some k } else s
  | none => s

/-- The rollback of a divergence event the Talk Detector handed over (R114). It leaves a pending recall to be taken as the
second restore of the frame end (R120; assumption 46). -/
def State.takeRollback (m : MicLane) (w : FrameWork) (s : State) : State :=
  match w.handover.get m with
  | some h => if h.event then (s.rollback m h.erle).keepRecall m w (s.mic m).ring.recallPending else s
  | none => s

/-- The effects of a fault clear on one microphone (R181). -/
def State.clearMic (kinds : BitVec 16) (m : MicLane) (s : State) : State :=
  s.modMic m fun x =>
    { x with
      engine := { x.engine with
        sticky := ⟨x.engine.sticky.coef && !kinds.getLsbD 0, x.engine.sticky.est && !kinds.getLsbD 1,
          x.engine.sticky.err && !kinds.getLsbD 2⟩ }
      ring := { x.ring with
        restored := ⟨x.ring.restored.coef && !kinds.getLsbD 0, x.ring.restored.est && !kinds.getLsbD 1,
          x.ring.restored.err && !kinds.getLsbD 2⟩ }
      haltKinds := x.haltKinds &&& ~~~kinds
      talk := { x.talk with halt := x.talk.halt && !(x.haltKinds &&& ~~~kinds == 0#16) } }

/-- The effects of a fault clear on the table and the first-fault record (R181). -/
def Link.clearFaults (kinds : BitVec 16) (l : Link) : Link :=
  { l with
    faults := tabulate 11 fun k =>
      if kinds.getLsbD k then
        { l.faults.get (Fin.ofNat 11 k) with seen := false, count := 0, mics := 0#16 }
      else l.faults.get (Fin.ofNat 11 k)
    first := match l.first with
      | some x => if kinds.getLsbD x.kind.code.val then none else some x
      | none => none
    clear := none }

/-- Take a fault clear (R181). A microphone named with no kind keeps its flags; one named has its halt flag cleared when
its set of halting kinds is empty. -/
def State.takeClear (c : PendingClear) (s : State) : State :=
  (s.modLink (Link.clearFaults c.kinds)).forEach allMics fun m t =>
    if c.mics.get m = 0#16 then t else t.clearMic (c.mics.get m) m

/-- The pending fault clear, where there is one (R181). -/
def State.takePendingClear (s : State) : State :=
  match s.link.clear with
  | some c => s.takeClear c
  | none => s

/-- The commit countdown of a frame end: it does not act on a set staged at this one (R157, R158). -/
def State.countCommit (w : FrameWork) (s : State) : State :=
  if s.staged.isSome && !w.stagedNow then
    if s.countdown = 0 then s.applyStaged 0 else { s with countdown := s.countdown - 1 }
  else s

/-- The idle count of an open session, and its timeout (R127, R135). -/
def State.countIdle (s : State) : State :=
  match s.session with
  | some x =>
    if Config.idleLimit ≤ x.idle + 1 then s.endSession x .timeout 0
    else { s with session := some { x with idle := x.idle + 1 } }
  | none => s

/-- The event line `k` formed at step 1, acted on (R163, R165). -/
def State.takeLineAction (k : InLineIndex) (w : FrameWork) (s : State) : State :=
  match w.events.get k with
  | some ev => s.actLine k ev
  | none => s

/-! ### What a frame end leaves of the modes for the next frame -/

/-- What the work taken so far leaves of the modes: which microphones are HALTED, and which are LIVE with no halt flag set by
a fault at this frame end (R54 to R56, R108). RING_FULL of a microphone's own refused automatic push is left out of the
second: the push it refuses was due without it. -/
def FrameWork.outlookOf (w : FrameWork) (mics : Vector Mic 16) : Outlook where
  halted := tableMap (fun x => x.talk.halt) mics
  live := tabulate 16 fun i =>
    let m : MicLane := Fin.ofNat 16 i
    let x := mics.get m
    let own := if w.pushRefused.get m then bit16 FaultKind.ringFull.code.val else 0#16
    let halt := x.talk.halt && !(w.pushRefused.get m && x.haltKinds &&& ~~~own == 0#16)
    deriveMode { x.talk with halt := halt } x.holdSpan == .live && w.haltSet.get m &&& ~~~own == 0#16

/-- The outlook a frame end in progress reads. -/
def State.outlook (s : State) : Outlook :=
  match s.phase with
  | .taking w => w.outlook
  | .sampling => ⟨tabulate 16 fun _ => false, tabulate 16 fun _ => false⟩
  | .due => ⟨tabulate 16 fun _ => false, tabulate 16 fun _ => false⟩

/-- The outlook as it would be with nothing more of the frame end to take. -/
def State.outcome (s : State) : Outlook :=
  match s.phase with
  | .taking w => w.outlookOf s.mics
  | .sampling => s.outlook
  | .due => s.outlook

/-- Let the work still to be taken read an outlook. -/
def State.withOutlook (o : Outlook) (s : State) : State := s.modWork fun w => { w with outlook := o }

/-- The mode derived for the next frame is LIVE, and no fault sets the microphone's halt flag at this frame end (R108,
condition 2 and the sentence after the list; assumption 21). -/
def State.liveNext (s : State) (m : MicLane) : Bool := s.outlook.live.get m

/-- Microphone `m` is HALTED for the next frame (R43, R87; assumption 21). Event rows commanded after EVALUATION_FRAME_END
may take the rest of the frame end in another order than the one foreseen: evaluation keeps the mode it was given. -/
def State.haltedNext (s : State) (m : MicLane) : Bool := s.outlook.halted.get m

/-! ### The pieces -/

/-- The conditions of an automatic push (R108). -/
def State.autoPushDue (s : State) (w : FrameWork) (m : MicLane) : Bool :=
  match w.handover.get m with
  | some h =>
    w.adapting.get m && h.settled && decide (w.governing.ckptIndex ≤ h.erle) && h.calm &&
      decide (w.governing.ckptInterval ≤ (s.mic m).ring.interval) && s.liveNext m
  | none => false

/-- Note the refusal of an automatic push (R107). -/
def State.notePushOutcome (m : MicLane) (done : PushOutcome × State) : State :=
  match done.1 with
  | .pushed => done.2
  | .ringFull | .noRoom | .halted => done.2.modWork fun w => { w with pushRefused := tablePut w.pushRefused m true }

/-- An automatic push, where its conditions hold and no push has been attempted for the microphone (R108). -/
def State.autoPush (m : MicLane) (w : FrameWork) (s : State) : State :=
  if !w.pushTaken.get m && s.autoPushDue w m then State.notePushOutcome m ((s.notePush m).push m false) else s

/-- One piece of frame-end work, taken whole: the limits of all paths are one piece, as are the cuts, the evaluation, the
minimum fill and the granting of all paths, and the action of one line on every microphone of its mask (assumption
42). -/
def State.runTask (t : Task) (w : FrameWork) (s : State) : State :=
  match t with
  | .slips => s.reportSlips
  | .loss => s.judgeLoss
  | .satFaults m => s.convertMarks m
  | .talk m => s.talkWork m w
  | .trim m => s.applyTrim m
  | .limits => s.forEach allPaths fun p u => u.takeLimits p.1 p.2
  | .cuts => s.enforceLimits
  | .minFill => s.minFill
  | .evaluation => s.evaluate w s.haltedNext
  | .granting => s.serveQueue
  | .poolLow => s.testPool w.governing
  | .forcedPush m => s.takePush m w
  | .autoPush m => s.autoPush m w
  | .recall m => s.takeRecall m
  | .slotCommand m k => s.takeSlotCommand m k
  | .reset m => s.takeReset m w
  | .restoredFaults m => s.takeRestored m w
  | .rollback m => s.takeRollback m w
  | .faultClear => s.takePendingClear
  | .hostFlags m => s.takeHostFlags m
  | .lineForm => s.formLines
  | .lineSpans => s.countSpans
  | .lineAction k => s.takeLineAction k w
  | .lineLevels => s.handLevels w
  | .inEntry k => s.takeInEntry k
  | .outEntry k => s.modOutLine k OutLine.takeEntry
  | .commit => s.countCommit w
  | .sessionIdle => s.countIdle

/-- Take one piece of work: it is no longer to be taken, and its effect happens. -/
def State.takeTask (t : Task) (s : State) : State :=
  match s.phase with
  | .taking w =>
    State.runTask t { w with todo := w.todo.erase t } { s with phase := .taking { w with todo := w.todo.erase t } }
  | .sampling => s
  | .due => s

/-- Take selected work, each piece chosen among those ready by the next choice, until none is left or the bound runs
out. -/
def State.takeTasks (choose : Nat → Nat) (select : Task → Bool) : Nat → State → State
  | 0, s => s
  | fuel + 1, s =>
    match s.phase with
    | .taking w =>
      match w.pick (choose w.nextChoice) select with
      | some t =>
        ({ s with
          drawn := s.drawn + 1
          phase := .taking { w with nextChoice := w.nextChoice + 1 } }.takeTask t).takeTasks choose select fuel
      | none => s
    | .sampling => s
    | .due => s

/-- The pieces of work still to be taken. -/
def State.todo (s : State) : List Task :=
  match s.phase with
  | .taking w => w.todo
  | .sampling => []
  | .due => []

/-- Whether a piece of work is still to be taken. -/
def State.awaits (s : State) (t : Task) : Bool := s.todo.contains t

/-! ### Selected work, whole

Evaluation and automatic pushes read what the whole frame end leaves of the modes, and can change it: a request evaluation
queues, or a slot a push takes, can decide a restore, whose faults can halt a microphone. A frame end is therefore taken
with an outlook that it itself then brings about (assumption 21). -/

/-- Take all selected work under an outlook. -/
def State.takeUnder (choose : Nat → Nat) (select : Task → Bool) (o : Outlook) (s : State) : State :=
  (s.withOutlook o).takeTasks choose select s.todo.length

/-- What the selected work has brought about is what it read of `o`: the halts, where evaluation was among it, and the
liveness of each microphone whose automatic push was. -/
def State.borneOut (s : State) (select : Task → Bool) (o : Outlook) (after : State) : Bool :=
  let taken := fun t => select t && s.awaits t
  (!taken .evaluation || after.outcome.halted == o.halted) &&
    allMics.all fun m => !taken (.autoPush m) || after.outcome.live.get m == o.live.get m

/-- An automatic push. -/
def Task.isAutoPush (t : Task) : Bool :=
  match t with
  | .autoPush _ => true
  | _ => false

/-- Selected work where no outlook tried is borne out: automatic pushes wait for all but evaluation, and evaluation waits
for them. Each then reads what it finds, which the work after it leaves as it is. -/
def State.takeLast (choose : Nat → Nat) (select : Task → Bool) (s : State) : State :=
  let rest := s.takeTasks choose (fun t => select t && !t.isAutoPush && t != .evaluation) s.todo.length
  let pushed := rest.takeUnder choose (fun t => select t && t.isAutoPush) rest.outcome
  pushed.takeUnder choose select pushed.outcome

/-- Take all selected work of an open frame end: under the outlook it stands at, or else under the one that brings about,
where one of them is borne out. -/
def State.takeSelected (choose : Nat → Nat) (select : Task → Bool) (s : State) : State :=
  let first := s.takeUnder choose select s.outcome
  if s.borneOut select s.outcome first then first
  else
    let second := s.takeUnder choose select first.outcome
    if s.borneOut select first.outcome second then second else s.takeLast choose select

/-- The state in which evaluation, commanded by itself, reads the outlook of the frame end taken whole from here
(assumption 21); any other piece of work finds the state as it stands. -/
def State.foreseen (t : Task) (s : State) : State :=
  if t = .evaluation then s.withOutlook (s.takeSelected Config.frameEndChoice fun _ => true).outcome else s

/-! ## Closing: gains, gates and what the frame end leaves for the next frame -/

/-- The gain G of a path for the next frame (R29, R30). -/
def State.nextGain (s : State) (p : Params) (m : MicLane) (r : RefLane) : Nat :=
  if s.enabled m r && !(s.path m r).chain.isEmpty then gainOf p.step p.reg (s.ref r).power (s.path m r).window else 0

/-- The adapt gate of a path for the next frame (R31). -/
def State.nextGate (s : State) (p : Params) (m : MicLane) (r : RefLane) : Bool :=
  s.enabled m r && (s.mic m).talk.mode == .live && (s.mic m).talk.talk == .far && !s.lossState &&
    decide (p.farLevel < (s.ref r).level) && decide ((s.path m r).lead + (s.path m r).window ≤ (s.ref r).fill) &&
      !(s.path m r).chain.isEmpty

/-- Gain and gate of every path (R29 to R32). -/
def State.decideGates (p : Params) (s : State) : State :=
  s.forEach allPaths fun q t =>
    t.modPath q.1 q.2 fun x => { x with gain := s.nextGain p q.1 q.2, gate := s.nextGate p q.1 q.2 }

/-- The suppression gain of a microphone for the next frame (R139). -/
def suppressionGain (p : Params) (talk : TalkState) : Nat :=
  match talk with
  | .far => attenGain p.nlpAtten
  | .quiet => 32767
  | .near => 32767
  | .double => 32767

/-- The suppression gain of every configured microphone (R139). -/
def State.decideSuppression (p : Params) (s : State) : State :=
  s.forEach s.configuredMics fun m t => t.modOut m fun o => { o with gain := suppressionGain p (t.mic m).talk.talk }

/-- Close the frame end: modes, gains, gates, suppression gains and output lines for the next frame, the frame counter
incremented, the sample position back at 0 (R4). -/
def State.closeFrame (s : State) : State :=
  match s.phase with
  | .taking w =>
    { (((s.deriveModes.decideGates w.governing).decideSuppression w.governing).updateOutputs fun m =>
        w.rolledBack.get m) with
      phase := .sampling
      frameCounter := s.frameCounter + 1#32
      position := 0
      fillsShown := tableMap RefRecord.fill s.refs }
  | .sampling => s
  | .due => s

/-- The whole frame end, its free order given by `choose` (R4). -/
def State.frameEndBy (choose : Nat → Nat) (s : State) : State :=
  (s.openFrame.takeSelected choose fun _ => true).closeFrame

/-- Whether a frame end is due or in progress. -/
def State.frameEnding (s : State) : Bool := s.phase != .sampling

/-- The frame end that is due or in progress, whole, in an order nothing constrains further (R4). -/
def State.frameEnd (s : State) : State := if s.frameEnding then s.frameEndBy Config.frameEndChoice else s

/-- The frame end opened, and the work that must precede an event taken, in a free order. -/
def State.approach (select : Task → Bool) (s : State) : State :=
  s.openFrame.takeSelected Config.frameEndChoice select

end Sys2Proof.Machine
end

