-- ==== Sys2Proof/Machine/Audio.lean ====
section
/-! DEFINITION. The sample work of the part (R3): consumption of the reference (R7, R12), trim (R14), estimate, error and
update (R20 to R23, R33, R34), the output sample (R141 to R147); and the commands CAPTURE_SAMPLE and
REFERENCE_ARRIVAL. -/

namespace Sys2Proof.Machine

/-! ## Step 1 of R3: the reference -/

/-- The newest sample joins a history ring, which keeps the last 8192 (R12). -/
def pushSample (x : Int) (ring : Vector Int 8192) : Vector Int 8192 := ⟨⟨x :: ring.toList.take 8191⟩, by simp⟩

/-- A consumed sample in a lane's history: written as newest, counted in the fill unless the port is lost, and its square
summed for the frame while RUNNING (R12, R26). -/
def RefRecord.consume (lost running : Bool) (x : Int) (h : RefRecord) : RefRecord :=
  { h with
    ring := pushSample x h.ring
    fill := if lost then 0 else min Config.historyDepth (h.fill + 1)
    sumSquares := if running then h.sumSquares + square x else h.sumSquares }

/-- The samples the reference port hands over, in lane order; empty where each is 0 (R7). -/
def RefPort.handedOver (p : RefPort) : List Int := if p.lost then [] else p.fifo.headD []

/-- The port after a consumption (R7): the head set removed, or an underrun slip counted (R8). -/
def RefPort.consume (p : RefPort) : RefPort :=
  if p.lost then p
  else match p.fifo with
    | _ :: rest => { p with fifo := rest }
    | [] => { p with underrunTally := bump 1 p.underrunTally, underruns := bump 1 p.underruns }

/-- Step 1 of R3 for every configured reference lane. -/
def State.consumeReference (s : State) : State :=
  { s with port := s.port.consume }.forEach s.configuredRefs fun r t =>
    t.modRef r (RefRecord.consume s.port.lost (!s.parked) (s.port.handedOver.getD r.val 0))

/-! ## Step 3: the estimate (R20, R21) -/

/-- The products of 64 coefficients with the history samples from delay `k` on (R20). -/
def segmentProduct (h : RefRecord) (k : Nat) (coefs : Vector Int 64) : Int :=
  (coefs.toList.zipIdx.map fun q => q.1 * h.tap (k + q.2)).sum

/-- The contribution of one path (R20, R21): coefficient j of position i multiplies the sample at delay D + 64 i + j. -/
def State.pathProduct (s : State) (m : MicLane) (r : RefLane) : Int :=
  ((s.path m r).chain.zipIdx.map fun q =>
    segmentProduct (s.ref r) ((s.path m r).lead + 64 * q.2) (s.segment q.1).coefs).sum

/-- The accumulation acc of a microphone: its enabled paths (R20, R21). An empty chain contributes 0. -/
def State.accumulate (s : State) (m : MicLane) : Int :=
  ((allRefs.filter (s.enabled m)).map (s.pathProduct m)).sum

/-! ## Step 3: the update (R33, R34) -/

/-- A coefficient's sum w + Δ before its clamp (R33). -/
def updatedRaw (mode : RoundMode) (gain : Nat) (e x w : Int) : Int := w + updateStep mode gain e x

/-- The 64 coefficients after their update with the history samples from delay `k` on (R33). -/
def updateCoefs (mode : RoundMode) (gain : Nat) (e : Int) (h : RefRecord) (k : Nat) (coefs : Vector Int 64) :
    Vector Int 64 :=
  ⟨⟨coefs.toList.zipIdx.map fun q => sat24 (updatedRaw mode gain e (h.tap (k + q.2)) q.1)⟩, by simp⟩

/-- How many of the 64 sums the clamp changes (R33). -/
def updateClamps (mode : RoundMode) (gain : Nat) (e : Int) (h : RefRecord) (k : Nat) (coefs : Vector Int 64) : Nat :=
  (coefs.toList.zipIdx.filter fun q =>
    sat24 (updatedRaw mode gain e (h.tap (k + q.2)) q.1) != updatedRaw mode gain e (h.tap (k + q.2)) q.1).length

/-- How many results the update of one path clamps. -/
def State.pathClamps (s : State) (m : MicLane) (r : RefLane) (e : Int) : Nat :=
  ((s.path m r).chain.zipIdx.map fun q =>
    updateClamps s.active.rounding (s.path m r).gain e (s.ref r) ((s.path m r).lead + 64 * q.2)
      (s.segment q.1).coefs).sum

/-- The update of one path whose gate is open, with the COEF_SAT mark of its clamps (R33, R38). -/
def State.updatePath (m : MicLane) (r : RefLane) (e : Int) (s : State) : State :=
  (s.forEach (s.path m r).chain.zipIdx fun q t =>
    t.modSegment q.1 fun x =>
      { x with
        coefs := updateCoefs s.active.rounding (s.path m r).gain e (s.ref r) ((s.path m r).lead + 64 * q.2) x.coefs
      }).modEngine m fun g => { g with coefMark := g.coefMark.note s.position r.val (s.pathClamps m r e) }

/-- The update of every path of a microphone whose gate is open, references ascending (R33; assumption 20). -/
def State.updateMic (m : MicLane) (e : Int) (s : State) : State :=
  s.forEach (allRefs.filter fun r => (s.path m r).gate) fun r t => t.updatePath m r e

/-! ## Steps 2 to 4 for one microphone -/

/-- The cancelled input d of a microphone (R14). -/
def State.cancelledInput (s : State) (m : MicLane) (raw : Int) : Int :=
  trimmed s.active.rounding (s.mic m).trim raw

/-- The estimate y (R21). -/
def State.estimate (s : State) (m : MicLane) : Int := sat16 (estimateRaw s.active.rounding (s.accumulate m))

/-- The clamp of y acts (R21). -/
def State.estimateClamps (s : State) (m : MicLane) : Bool :=
  s.estimate m != estimateRaw s.active.rounding (s.accumulate m)

/-- The error e (R22). -/
def errorOf (d y : Int) : Int := sat16 (d - y)

/-- The processed sample of a microphone (R142, R143). -/
def State.processed (s : State) (m : MicLane) (e : Int) : Int :=
  processedSample s.active.rounding s.active.noiseFill e
    (comfortNoise s.active.rounding (s.mic m).out.generator (s.mic m).out.amplitude) (s.mic m).out.gain

/-- The output sample of a configured microphone while RUNNING (R144, R147). -/
def State.runningOutput (s : State) (m : MicLane) (d e : Int) : Int :=
  if (s.mic m).out.muted then 0
  else match (s.mic m).out.source with
    | .processed => s.processed m e
    | .residual => e
    | .direct => d

/-- The output sample of a configured microphone while PARKED: d, or 0 when muted (R23, R147). -/
def State.parkedOutput (s : State) (m : MicLane) (d : Int) : Int := if (s.mic m).out.muted then 0 else d

/-- One sample's squares and clamps in the engine's record (R21, R22, R35, R38). -/
def EngineRecord.sample (position : Nat) (d y e : Int) (estClamped errClamped : Bool) (g : EngineRecord) :
    EngineRecord :=
  { g with
    sumD := g.sumD + square d
    sumY := g.sumY + square y
    sumE := g.sumE + square e
    estMark := g.estMark.note position 255 (flagNat estClamped)
    errMark := g.errMark.note position 255 (flagNat errClamped) }

/-- What the next capture period carries in a microphone's slot. -/
def State.putOutput (m : MicLane) (x : Int) (s : State) : State := { s with outNext := tablePut s.outNext m x }

/-- Steps 2 to 4 of R3 for one microphone while RUNNING: output formed, squares and clamps noted, generator stepped,
coefficients updated. -/
def State.runMic (m : MicLane) (raw : Int) (s : State) : State :=
  let d := s.cancelledInput m raw
  let y := s.estimate m
  let e := errorOf d y
  ((((s.putOutput m (s.runningOutput m d e)).modEngine m
    (EngineRecord.sample s.position d y e (s.estimateClamps m) (e != d - y))).modOut m fun o =>
      { o with generator := generatorStep s.active.noiseTaps o.generator }).updateMic m e)

/-- Steps 2 to 4 of R3 for one microphone while PARKED (R23, R147). -/
def State.parkMic (m : MicLane) (raw : Int) (s : State) : State :=
  s.putOutput m (s.parkedOutput m (s.cancelledInput m raw))

/-- Steps 2 to 4 of R3 for every configured microphone; an unconfigured lane's slot carries 0 (R147). -/
def State.sampleMics (slots : Vector (BitVec 32) 16) (s : State) : State :=
  { s with outNext := tabulate 16 fun _ => 0 }.forEach s.configuredMics fun m t =>
    if s.parked then t.parkMic m (slotSample (slots.get m)) else t.runMic m (slotSample (slots.get m))

/-- The sample position advances; the sample at position 127 makes the frame end due (R4). Nothing is counted while
PARKED. -/
def State.advancePosition (s : State) : State :=
  if s.parked then s
  else if 127 ≤ s.position then { s with phase := .due }
  else { s with position := s.position + 1 }

/-- One capture sample with no frame end due: lines sampled (R162), the outputs of the period before carried (R5), and the
work of R3 in its order. -/
def State.takeSample (slots : Vector (BitVec 32) 16) (pins : BitVec 8) (s : State) : State :=
  let period := { s with outNow := s.outNext }
  (((period.sampleLines pins).consumeReference).sampleMics slots).advancePosition

/-- CAPTURE_SAMPLE (R3, R4, R5). A frame end still due is whole before the next frame's first sample (assumption 2). -/
def execCaptureSample (slots : Vector (BitVec 32) 16) (pins : BitVec 8) (s : State) :
    Host.Outcome State Fault Refusal :=
  .next (s.frameEnd.takeSample slots pins)

/-! ## Reference arrivals (R6, R10) -/

/-- A sample set of the configured lanes (R6). -/
def State.sampleSet (s : State) (slots : Vector (BitVec 32) 4) : List Int :=
  s.configuredRefs.map fun r => slotSample (slots.get r)

/-- A set that arrives while the port is not lost (R6, R8). -/
def RefPort.join (set : List Int) (p : RefPort) : RefPort :=
  if p.fifo.length < Config.fifoDepth then { p with fifo := p.fifo ++ [set] }
  else
    { p with
      fifo := p.fifo.tail ++ [set]
      overrunTally := bump 1 p.overrunTally
      overruns := bump 1 p.overruns }

/-- The end of a loss (R10). -/
def State.endLoss (s : State) : State :=
  { s with port := { s.port with lost := false, silence := 0 } }.referenceReport 1

/-- Output lines follow the state while PARKED (R168). -/
def State.refreshOutputs (s : State) : State := if s.parked then s.updateOutputs fun _ => false else s

/-- REFERENCE_ARRIVAL (R6, R10). One that comes when the sample at position 127 has been taken and the loss decision of its
frame end has not counts for the frame that is ending; one after the decision ends the loss at once, and the rest of that
frame end keeps to the decision (assumption 40). -/
def execReferenceArrival (slots : Vector (BitVec 32) 4) (s : State) : Host.Outcome State Fault Refusal :=
  let marked := { s with port := { s.port with arrived := true } }
  let present := if s.port.lost then marked.endLoss.refreshOutputs else marked
  .next { present with port := present.port.join (s.sampleSet slots) }

end Sys2Proof.Machine
end

