-- ==== Sys2Proof/Machine/LinkOps.lean ====
section
/-! DEFINITION. The Control Link's shared operations: acceptance of a request and its reply (R172 to R174), and the
transactions: READ (R170, R173), ignored transactions (R170), discarded frames and unknown kinds (R172), RESTART and
its completion (R160), POWER_ON and RESETN (R161). -/

namespace Sys2Proof.Machine

/-! ## Requests -/

/-- What a request's block answers: the reply's bytes from its status on, and the state the request leaves. -/
abbrev Answer := List Byte × State

/-- SPI_SDO through a transaction in which the part sends nothing: `n` zero bytes after the direction byte (R170). -/
def State.driveZeros (n : Nat) (s : State) : State := s.modLink fun l => { l with sdo := List.replicate n 0#8 }

/-- A frame that finds the request slot full is discarded and DROPPED is set (R172, check 1). -/
def State.dropFrame (s : State) : State := s.modLink fun l => { l with dropped := true }

/-- A discarded frame's LINK_FORMAT fault (R172). -/
def State.formatFault (b0 b1 b2 b3 : Byte) (s : State) : State := s.fault .linkFormat none ⟨b0, b1, b2, b3⟩

/-- A discarded frame's LINK_CRC fault (R172). -/
def State.crcFault (received computed : BitVec 16) (s : State) : State :=
  s.fault .linkCrc none
    (detailOf (received.toNat / 256) received.toNat (computed.toNat / 256) computed.toNat)

/-- A reply to a frame: its KIND plus 0x80, its TAG (R174); the sum is taken modulo 256 where the frame's KIND is 0x80 or
above (assumption 52). -/
def replyTo (f : Frame) (payload : List Byte) : Frame := ⟨f.kind + 0x80#8, f.tag, payload⟩

/-- A request fills the request slot, and its reply the reply slot; SPI_SDO carried 0x00 under the frame (R170, R172,
R173). -/
def State.fillSlots (f : Frame) (answer : Answer) : State :=
  answer.2.modLink fun l =>
    { l with
      request := some f
      reply := some (replyTo f answer.1)
      sdo := List.replicate (8 + f.payload.length) 0#8 }

/-- A WRITE transaction that carries the frame of a request (R170, R172): discarded when the request slot is full or its
length is not one Table 11-3 allows, and otherwise dispatched to the block that answers it. -/
def State.request (i : Instr) (block : State → Answer) (s : State) : State :=
  match requestFrame? i with
  | some f =>
    if s.link.request.isSome then (s.driveZeros (8 + f.payload.length)).dropFrame
    else if lengthAllowed f.kind f.payload.length then State.fillSlots f (block s)
    else (s.driveZeros (8 + f.payload.length)).formatFault syncByte f.kind f.tag 0#8
  | none => s

/-- A reply that is a status alone, the state unchanged (R174). -/
def refuse (st : Status) (s : State) : Answer := ([st.byte], s)

/-- A reply OK with its bytes. -/
def answerOk (bytes : List Byte) (s : State) : Answer := (Status.ok.byte :: bytes, s)

/-! ## READ (R170, R173) -/

/-- The IDLE frame (R173). -/
def idleFrame : Frame := ⟨0#8, 0#8, []⟩

/-- The frame a READ sends: the reply, otherwise the head report, otherwise IDLE (R173). -/
def Link.outbound (l : Link) : Frame :=
  match l.reply, l.reports with
  | some f, _ => f
  | none, r :: _ => r
  | none, [] => idleFrame

/-- READY: the request slot will be empty once the frame is removed (R173). -/
def Link.ready (l : Link) : Bool := l.reply.isSome || l.request.isNone

/-- The reply in the reply slot is RESTART's (R160). -/
def Link.restarting (l : Link) : Bool :=
  match l.reply with
  | some f => f.kind == 0x82#8
  | none => false

/-- MORE: the report queue will still hold a report once the frame is removed (R173), a PENDING report that the removal queues
not counted (assumption 18). RESTART's reply is removed by the power-on that empties the queue (R160, R173, R183). -/
def Link.more (l : Link) : Bool :=
  if l.reply.isSome then !l.restarting && !l.reports.isEmpty else !l.reports.tail.isEmpty

/-- The bytes of the frame a READ sends. -/
def Link.outboundBytes (l : Link) : List Byte :=
  encodeFrame (outboundFlags l.ready l.more l.dropped) l.outbound

/-- The frame sent leaves its slot or the queue, and DROPPED is cleared (R170, R173, R176). A PENDING report takes the place
a report leaves before any other can (assumption 53). -/
def Link.remove (frameCounter : BitVec 32) (l : Link) : Link :=
  match l.reply, l.reports with
  | some _, _ => { l with request := none, reply := none, dropped := false }
  | none, _ :: rest => { l with reports := rest, dropped := false }.reportPending frameCounter
  | none, [] => { l with dropped := false }

/-- What SPI_SDO carries in `n` bytes after the direction byte of a READ: the frame, then 0x00 (R170). -/
def Link.sdoBytes (l : Link) (n : Nat) : List Byte :=
  (l.outboundBytes ++ List.replicate n 0#8).take n

/-- READ (R170, R173): a frame whose last CRC byte is not clocked out stays where it was; the whole reading of RESTART's
reply brings the power-on state (R160). -/
def execRead (clocked : Nat) (s : State) : Host.Outcome State Fault Refusal :=
  let sent := s.modLink fun l => { l with sdo := s.link.sdoBytes clocked }
  if clocked < s.link.outboundBytes.length then .next sent
  else if s.link.restarting then .next (s.powerOn.modLink fun l => { l with sdo := s.link.sdoBytes clocked })
  else .next (sent.modLink (Link.remove s.frameCounter))

/-! ## Other transactions -/

/-- A transaction the part ignores: one whose first byte is neither WRITE nor READ, or that has no complete byte
(R170). -/
def ignored (sent : List Byte) : Bool := sent.head? != some 0x3C#8 && sent.head? != some 0xC3#8

/-- IGNORED_TRANSACTION (R170): SPI_SDO carries 0x00 and nothing else happens. -/
def execIgnoredTransaction (sent : List Byte) (s : State) : Host.Outcome State Fault Refusal :=
  if ignored sent then .next (s.driveZeros (sent.length - 1)) else .next s

/-- INBOUND_FRAME_DISCARDED (R172): a frame that fails check 1, 2, 3 or 5. A frame that passes them is no such event
(assumption 25). -/
def execInboundFrameDiscarded (bytes : List Byte) (s : State) : Host.Outcome State Fault Refusal :=
  let sent := s.driveZeros bytes.length
  if s.link.request.isSome then .next sent.dropFrame
  else match classify bytes with
    | .badFormat b0 b1 b2 b3 => .next (sent.formatFault b0 b1 b2 b3)
    | .badCrc received computed => .next (sent.crcFault received computed)
    | .unknown _ => .next s
    | .request _ => .next s

/-- UNKNOWN_KIND (R172, check 4): accepted and answered with the status alone. -/
def execUnknownKind (kind tag : Byte) (payload : List Byte) (s : State) : Host.Outcome State Fault Refusal :=
  if s.link.request.isSome then .next (s.driveZeros (8 + payload.length)).dropFrame
  else if Config.maxPayload < payload.length then
    .next ((s.driveZeros (8 + payload.length)).formatFault syncByte kind tag 0#8)
  else if knownKind kind then .next s
  else .next (State.fillSlots ⟨kind, tag, payload⟩ (refuse .unknownKind s))

/-! ## Resets of the part (R160, R161) -/

/-- POWER_ON (R161). -/
def execPowerOn (s : State) : Host.Outcome State Fault Refusal := .next s.powerOn

/-- RESETN (R161). -/
def execResetn (s : State) : Host.Outcome State Fault Refusal := .next s.powerOn

/-- RESTART_COMPLETION (R160): the READ that carries RESTART's reply ends. Without such a reply there is none. -/
def execRestartCompletion (s : State) : Host.Outcome State Fault Refusal :=
  if s.link.restarting then .next s.powerOn else .next s

/-- RESTART (R160): the reply is placed, and the part goes on as before until it has been read. -/
def execRestart (tag : Byte) (s : State) : Host.Outcome State Fault Refusal :=
  .next (s.request (.restart tag) (answerOk []))

/-- IDENT (R175). -/
def State.identBytes (s : State) : List Byte :=
  [0xA4#8, 0x01#8] ++ le2 Config.poolSize ++ le2 Config.capacity ++ [byteOf 16, byteOf 4, byteOf 4, byteOf s.engine.code] ++
    s.counterBytes

/-- IDENT (R175). -/
def execIdent (tag : Byte) (s : State) : Host.Outcome State Fault Refusal :=
  .next (s.request (.ident tag) fun t => answerOk t.identBytes t)

end Sys2Proof.Machine
end

