-- ==== Sys2Proof/Machine/Device.lean ====
section
/-! DEFINITION. Chapter 9's requests: ENGINE.RUN (R150), ENGINE.PARK (R151), LAYOUT.SET and LAYOUT.GET (R152 to R154),
PARAM.SET, PARAM.GET and PARAM.COMMIT (R155 to R158). -/

namespace Sys2Proof.Machine

/-! ## ENGINE.RUN -/

/-- The engine state and the frame counter, as the replies to ENGINE.RUN and ENGINE.PARK carry them (R150, R151). -/
def State.engineBytes (s : State) : List Byte := byteOf s.engine.code :: s.counterBytes

/-- The reference port at ENGINE.RUN (R8, R9): the FIFO and the loss state are kept. -/
def RefPort.run (p : RefPort) : RefPort :=
  { p with silence := 0, arrived := false, underrunTally := 0, overrunTally := 0, underruns := 0, overruns := 0 }

/-- A microphone at ENGINE.RUN (R41, R59, R148). -/
def Mic.run (x : Mic) : Mic :=
  { x with
    engine := { x.engine with
      ed := 0
      ey := 0
      ee := 0
      sumD := 0
      sumY := 0
      sumE := 0
      coefMark := .clear
      estMark := .clear
      errMark := .clear }
    talk := { x.talk with talk := .quiet, nearHang := 0, farHang := 0, divCount := 0 }
    out := { x.out with gain := 32767 } }

/-- A path at ENGINE.RUN (R30, R32, R103). -/
def Path.run (p : Path) : Path := { p with gain := 0, gate := false, openGates := 0, granted := false }

/-- ENGINE.RUN accepted in PARKED (R150). -/
def State.enterRunning (s : State) : State :=
  ({ s with
    engine := .running
    phase := .sampling
    frameCounter := 0#32
    position := 0
    port := s.port.run
    refs := tabulate 4 fun _ => .zero
    fillsShown := tabulate 4 fun _ => 0
    mics := tableMap Mic.run s.mics
    paths := tableMap (tableMap Path.run) s.paths
    rebalance := 0
    lowPool := false
    inLines := tableMap InLine.run s.inLines }.deriveModes).updateOutputs fun _ => false

/-- ENGINE.RUN (R150). -/
def execEngineRun (tag : Byte) (s : State) : Host.Outcome State Fault Refusal :=
  .next (s.request (.engineRun tag) fun t =>
    if t.parked then answerOk t.enterRunning.engineBytes t.enterRunning else answerOk t.engineBytes t)

/-! ## ENGINE.PARK -/

/-- Step 1: gates close, the partial frame's sums and marks are discarded (R151). -/
def EngineRecord.dropFrame (e : EngineRecord) : EngineRecord :=
  { e with sumD := 0, sumY := 0, sumE := 0, coefMark := .clear, estMark := .clear, errMark := .clear }

/-- Step 1 of R151. -/
def State.parkEngine (s : State) : State :=
  { s with
    engine := .parked
    phase := .sampling
    refs := tableMap (fun x : RefRecord => { x with sumSquares := 0 }) s.refs
    fillsShown := tableMap RefRecord.fill s.refs
    mics := tableMap (fun x : Mic => { x with engine := x.engine.dropFrame }) s.mics
    paths := tableMap (tableMap fun p : Path => { p with gate := false }) s.paths }

/-- Step 2 of ENGINE.PARK: pending resets (R151), lanes ascending (assumption 41). -/
def State.parkResets (s : State) : State :=
  s.forEach s.configuredMics fun m t => if (t.mic m).resetPending then t.micReset m else t

/-- Limits taken outside a frame end, with the cut of R76 where they are (R75). -/
def State.takeLimitsNow (m : MicLane) (r : RefLane) (s : State) : State :=
  if (s.path m r).limits.isSome then (s.takeLimits m r).enforceLimit m r else s

/-- The cut of R76 on the paths of one microphone. -/
def State.enforceMic (m : MicLane) (s : State) : State := s.forEach allRefs fun r t => t.enforceLimit m r

/-- Step 3: trim changes, path limits with their cuts, host flags and output sources (R151). Trim changes come first, lanes
ascending, then limits and cuts path by path (assumption 41). -/
def State.parkPending (s : State) : State :=
  let trimmed := s.forEach s.configuredMics State.applyTrim
  let limited := trimmed.forEach allPaths fun p t => t.takeLimitsNow p.1 p.2
  limited.forEach allMics State.takeHostFlags

/-- A recall taken in PARKED, with the cut of R76 when it changed the chains; none where the slot has nothing to
restore. That the cut follows its own recall at once, before the next microphone's recall in ENGINE.PARK's step 4, is
assumption 41's. -/
def State.recallNow (m : MicLane) (k : SlotIndex) (s : State) : Option (RestoreOutcome × State) :=
  (s.recall m k).map fun done => (done.1, if done.1 = .zero then done.2 else done.2.enforceMic m)

/-- A pending recall taken by ENGINE.PARK (R120, R151). -/
def State.parkRecall (m : MicLane) (s : State) : State :=
  match (s.mic m).ring.recallPending with
  | some k =>
    let cleared := s.modRing m fun x => { x with recallPending := none }
    match cleared.recallNow m k with
    | some done => done.2
    | none => cleared.ckptReport m (some k) 8 Status.refusedState.code none
  | none => s

/-- A pending push taken by ENGINE.PARK (R109, R151). -/
def State.parkPush (m : MicLane) (s : State) : State :=
  if (s.mic m).ring.pushPending then (s.forcedPush m).2 else s

/-- The pending slot commands of a microphone taken by ENGINE.PARK (R123, R151), slots ascending (assumption 41). -/
def State.parkCommands (m : MicLane) (s : State) : State := s.forEach allSlots fun k t => t.takeSlotCommand m k

/-- Step 4: recalls, then pushes, then slot commands (R151). That a push or a restore taken here sets the push interval count
to 0, as R112 and R118 say, where the ENGINE.PARK row of R125 says that the count is kept, is assumption 56. -/
def State.parkRings (s : State) : State :=
  ((s.forEach s.configuredMics State.parkRecall).forEach s.configuredMics State.parkPush).forEach s.configuredMics
    State.parkCommands

/-- A microphone at step 6: its countdown and its line causes cleared (R146, R151, R163, R164). -/
def Mic.parkLines (x : Mic) : Mic :=
  { x with
    holdSpan := 0
    talk := { x.talk with levelHold := false }
    out := { x.out with lineMute := false } }

/-- Step 6: the growth queue, the hold spans and the lines' per-frame state; pending line entries are taken (R151,
R166; assumption 14). -/
def State.parkLines (s : State) : State :=
  { s with
    queue := []
    mics := tableMap Mic.parkLines s.mics
    inLines := tableMap (fun x => x.park.takeEntry) s.inLines
    outLines := tableMap OutLine.takeEntry s.outLines }

/-- ENGINE.PARK accepted in RUNNING, through its steps (R151). A frame end still due is whole first (assumption 2); the
pending fault clear is taken just before the modes are derived (R181). That a MIC.RESET or a restore taken here clears the
open-gate counts and grant flags of its microphone, where the ENGINE.PARK row of R103 says that they are kept, is assumption
58. That resets, recalls, pushes and trim rescales taken here change chains, coefficients and records as their own rules say, where
the ENGINE.PARK row of R83 keeps the coefficients and changes chains by the limits alone, is assumption 60. -/
def State.enterParked (s : State) : State :=
  (((((((s.frameEnd.parkEngine).parkResets).parkPending).parkRings).applyStaged 1).parkLines).takePendingClear).deriveModes
    |>.updateOutputs fun _ => false

/-- ENGINE.PARK (R151). -/
def execEnginePark (tag : Byte) (s : State) : Host.Outcome State Fault Refusal :=
  .next (s.request (.enginePark tag) fun t =>
    if t.parked then answerOk t.engineBytes t else answerOk t.enterParked.engineBytes t.enterParked)

/-! ## LAYOUT.SET -/

/-- Whether the values of a LAYOUT.SET lie in range (R152). -/
def layoutInRange (mics refs init : Byte) : Bool :=
  decide (1 ≤ mics.toNat) && decide (mics.toNat ≤ 16) && decide (1 ≤ refs.toNat) && decide (refs.toNat ≤ 4) &&
    decide (1 ≤ init.toNat) && decide (init.toNat ≤ 80)

/-- The paths a new layout disables, ascending (R153). -/
def State.disabling (s : State) (l : Layout) : List (MicLane × RefLane) :=
  allPaths.filter fun p => s.enabled p.1 p.2 && !l.enables p.1 p.2

/-- The paths a new layout enables, ascending (R153). -/
def State.enabling (s : State) (l : Layout) : List (MicLane × RefLane) :=
  allPaths.filter fun p => !s.enabled p.1 p.2 && l.enables p.1 p.2

/-- The microphone lanes a new layout makes unconfigured (R153). -/
def State.leavingMics (s : State) (l : Layout) : List MicLane :=
  allMics.filter fun m => s.layout.hasMic m && !l.hasMic m

/-- The microphone lanes a new layout makes configured or unconfigured (R153). -/
def State.changingMics (s : State) (l : Layout) : List MicLane :=
  allMics.filter fun m => s.layout.hasMic m != l.hasMic m

/-- The chain a newly enabled path is given: the smaller of `initial_segs` and its `max_segs` (R72). -/
def State.share (s : State) (l : Layout) (m : MicLane) (r : RefLane) : Nat := min l.initialSegs (s.path m r).maxSegs

/-- R of the room test (R153). -/
def State.layoutReleased (s : State) (l : Layout) : Nat :=
  ((s.disabling l).map fun p => (s.path p.1 p.2).chain.length).sum

/-- K of the room test (R153). -/
def State.layoutDiscarded (s : State) (l : Layout) : Nat := ((s.leavingMics l).map s.micCheckpoint).sum

/-- N of the room test (R153). -/
def State.layoutNeeded (s : State) (l : Layout) : Nat := ((s.enabling l).map fun p => s.share l p.1 p.2).sum

/-- The free test of the room test: free + R + K against N (R153). -/
def State.layoutFree (s : State) (l : Layout) : Nat := s.freeCount + s.layoutReleased l + s.layoutDiscarded l

/-- The capacity test of the room test: ACTIVE − R + N against 2048 (R153). -/
def State.layoutActive (s : State) (l : Layout) : Nat := s.activeCount - s.layoutReleased l + s.layoutNeeded l

/-- Step 2 for one microphone becoming unconfigured (R153). -/
def State.layoutRing (m : MicLane) (s : State) : State :=
  (s.forEach allSlots fun k t => t.discardSlot m k 12).modRing m fun _ => .blank

/-- Step 3 for one path becoming disabled (R71, R153). -/
def State.layoutDisable (m : MicLane) (r : RefLane) (s : State) : State :=
  (s.releaseChain m r).modPath m r fun p => { p with lead := 0, limits := none, gain := 0, gate := false }

/-- Step 6: a change of the reference lane count (R13, R28, R41). -/
def State.layoutRefs (s : State) : State :=
  { s with port := { s.port with fifo := [] }, refs := tabulate 4 fun _ => .zero }

/-- Step 7 for a microphone lane that becomes configured or unconfigured (R35, R59, R148, R164, R179, R183). -/
def Mic.layout (m : MicLane) (x : Mic) : Mic :=
  { x with
    engine := { x.engine with ed := 0, ey := 0, ee := 0 }
    talk := { x.talk.micReset with levelHold := false, mode := .live }
    out := { x.out.micReset m with lineMute := false }
    holdSpan := 0
    haltKinds := 0#16 }

/-- Step 7 for a path whose enable flag changes (R103). -/
def State.layoutCounts (m : MicLane) (r : RefLane) (s : State) : State :=
  s.modPath m r fun p => { p with openGates := 0, granted := false }

/-- A layout applied, through the seven steps of R153. -/
def State.applyLayout (l : Layout) (s : State) : State :=
  let s₁ := s.forEach (s.leavingMics l) fun m t => t.abortSession m 1
  let s₂ := s₁.forEach (s.leavingMics l) State.layoutRing
  let s₃ := s₂.forEach (s.disabling l) fun p t => t.layoutDisable p.1 p.2
  let s₄ := { s₃ with layout := l }
  let s₅ := s₄.forEach (s.enabling l) fun p t => t.allocateChain p.1 p.2 (s.share l p.1 p.2)
  let s₆ := if s.layout.refs = l.refs then s₅ else s₅.layoutRefs
  let s₇ := s₆.forEach (s.changingMics l) fun m t => t.modMic m (Mic.layout m)
  let s₈ := s₇.forEach (s.disabling l ++ s.enabling l) fun p t => t.layoutCounts p.1 p.2
  { s₈ with fillsShown := tableMap RefRecord.fill s₈.refs }

/-- LAYOUT.SET's answer (R152, R153). -/
def State.layoutSet (mics refs : Byte) (mask : BitVec 64) (init : Byte) (s : State) : Answer :=
  let l : Layout := ⟨mics.toNat, refs.toNat, mask, init.toNat⟩
  if !s.parked then refuse .refusedState s
  else if !layoutInRange mics refs init then refuse .refusedRange s
  else if s.layoutFree l < s.layoutNeeded l then
    (Status.noRoom.byte :: (le2 (s.layoutNeeded l) ++ le2 (s.layoutFree l) ++ le2 (s.layoutNeeded l)), s)
  else if Config.capacity < s.layoutActive l then
    (Status.noRoom.byte :: (le2 (s.layoutNeeded l) ++ le2 (s.layoutActive l) ++ le2 Config.capacity), s)
  else
    let t := (s.applyLayout l).settleParked
    answerOk (le2 t.freeCount ++ le2 t.activeCount) t

/-- LAYOUT.SET (R152, R153). -/
def execLayoutSet (tag mics refs : Byte) (mask : BitVec 64) (init : Byte) (s : State) :
    Host.Outcome State Fault Refusal :=
  .next (s.request (.layoutSet tag mics refs mask init) (State.layoutSet mics refs mask init))

/-- The layout in the order LAYOUT.SET carries it (R154). -/
def Layout.bytes (l : Layout) : List Byte :=
  byteOf l.mics :: byteOf l.refs :: (leBytes 8 l.mask.toNat ++ [byteOf l.initialSegs])

/-- LAYOUT.GET (R154). -/
def execLayoutGet (tag : Byte) (s : State) : Host.Outcome State Fault Refusal :=
  .next (s.request (.layoutGet tag) fun t =>
    answerOk (byteOf t.engine.code :: (t.layout.bytes ++ t.counterBytes)) t)

/-! ## Parameters -/

/-- PARAM.SET's answer (R155). -/
def State.paramSet (id : Byte) (value : BitVec 32) (s : State) : Answer :=
  match s.shadow.write id.toNat value.toNat with
  | some (shadow, st) => (st.byte :: id :: le4 (shadow.value id.toNat), { s with shadow := shadow })
  | none => refuse .refusedRange s

/-- PARAM.SET (R155). -/
def execParamSet (tag id : Byte) (value : BitVec 32) (s : State) : Host.Outcome State Fault Refusal :=
  .next (s.request (.paramSet tag id value) (State.paramSet id value))

/-- The reply bytes of PARAM.GET after its status (R156). -/
def State.paramBytes (selector : Byte) (p : Params) (s : State) : List Byte :=
  selector :: (p.bytes ++ [flagByte s.staged.isSome, byteOf s.countdown, byteOf s.engine.code])

/-- PARAM.GET's answer (R156). -/
def State.paramGet (selector : Byte) (s : State) : Answer :=
  match selector.toNat with
  | 0 => answerOk (s.paramBytes selector s.shadow) s
  | 1 => answerOk (s.paramBytes selector s.active) s
  | 2 =>
    match s.staged with
    | some x => answerOk (s.paramBytes selector x.params) s
    | none => refuse .refusedState s
  | _ => refuse .refusedRange s

/-- PARAM.GET (R156). -/
def execParamGet (tag selector : Byte) (s : State) : Host.Outcome State Fault Refusal :=
  .next (s.request (.paramGet tag selector) (State.paramGet selector))

/-- A set staged by PARAM.COMMIT, applied at once in PARKED (R157, R158). -/
def State.commit (latency : Nat) (s : State) : State :=
  let staged := s.stage .paramCommit latency s.shadow.clampByte
  if s.parked then staged.applyStaged 2 else staged

/-- PARAM.COMMIT's answer (R157). -/
def State.paramCommit (latency : Byte) (s : State) : Answer :=
  if 7 < latency.toNat then refuse .refusedRange s
  else if s.staged.isSome then refuse .refusedBusy s
  else
    ((if s.shadow.clampByte = 0 then Status.ok.byte else Status.clamped.byte) ::
      [byteOf s.shadow.clampByte, latency, byteOf (s.commit latency.toNat).countdown],
      s.commit latency.toNat)

/-- PARAM.COMMIT (R157). -/
def execParamCommit (tag latency : Byte) (s : State) : Host.Outcome State Fault Refusal :=
  .next (s.request (.paramCommit tag latency) (State.paramCommit latency))

end Sys2Proof.Machine
end

