-- ==== Sys2Proof/Machine/MicRequests.lean ====
section
/-! DEFINITION. The requests on one or several microphones: TRIM (R15, R16), PATH.LIMITS (R74, R75), MIC.FREEZE and
MIC.THAW (R57), MIC.MUTE (R145), MIC.OUTPUT (R144) and MIC.RESET (R159). -/

namespace Sys2Proof.Machine

/-! ## TRIM -/

/-- A TRIM request passes its check as a whole: no code above 2, no code but NOP for an unconfigured lane (R15). -/
def State.trimAccepted (s : State) (codes : Vector Byte 16) : Bool :=
  allMics.all fun m => decide ((codes.get m).toNat ≤ 2) && (codes.get m == 0#8 || s.layout.hasMic m)

/-- A pending step moved by a code (R15). -/
def moveTrim (code : Byte) (step : Nat) : Nat :=
  if code = 1#8 then min 15 (step + 1) else if code = 2#8 then step - 1 else step

/-- A code left without effect by a limit (R15). -/
def trimLimited (code : Byte) (step : Nat) : Bool := (code == 1#8 && step == 15) || (code == 2#8 && step == 0)

/-- Every pending step moved by its lane's code (R15). -/
def State.moveTrims (codes : Vector Byte 16) (s : State) : State :=
  s.forEach allMics fun m t => t.modMic m fun x => { x with trimPending := moveTrim (codes.get m) x.trimPending }

/-- The status of an accepted TRIM (R15). -/
def State.trimStatus (s : State) (codes : Vector Byte 16) : Status :=
  if allMics.any fun m => trimLimited (codes.get m) (s.mic m).trimPending then .clamped else .ok

/-- TRIM's answer (R15, R16): in PARKED the changes are applied at once, lanes ascending (assumption 34). -/
def State.trimRequest (codes : Vector Byte 16) (s : State) : Answer :=
  if s.trimAccepted codes then
    let moved := s.moveTrims codes
    ((s.trimStatus codes).byte :: allMics.map fun m => byteOf (moved.mic m).trimPending,
      if s.parked then (moved.forEach s.configuredMics State.applyTrim).settleParked else moved)
  else refuse .refusedRange s

/-- TRIM (R15). -/
def execTrim (tag : Byte) (codes : Vector Byte 16) (s : State) : Host.Outcome State Fault Refusal :=
  .next (s.request (.trim tag codes) (State.trimRequest codes))

/-! ## PATH.LIMITS -/

/-- The limits a PATH.LIMITS spells, where its values pass R74. -/
def limitsOperand (minSegs maxSegs flags : Byte) (lead : BitVec 16) : Option PendingLimits :=
  if 1 ≤ minSegs.toNat ∧ minSegs.toNat ≤ maxSegs.toNat ∧ maxSegs.toNat ≤ Config.maxChain ∧ flags.toNat < 4 ∧
      (flags.getLsbD 1 = false ∨ lead.toNat ≤ Config.maxLead) then
    some ⟨minSegs.toNat, maxSegs.toNat, flags.getLsbD 0, if flags.getLsbD 1 then some lead.toNat else none⟩
  else none

/-- The reply bytes of an accepted PATH.LIMITS (R74). Where the request carries no lead delay, the one the path has at
acceptance is sent: what a grant, a drop or a restore may still make of it before the limits are taken is not foreseen
(assumption 24). -/
def State.limitsBytes (s : State) (m : MicLane) (r : RefLane) (x : PendingLimits) : List Byte :=
  byteOf x.minSegs :: byteOf x.maxSegs :: flagByte x.pinned ::
    (le2 (x.lead.getD (s.path m r).lead) ++ [byteOf (s.path m r).chain.length])

/-- PATH.LIMITS' answer (R74, R75). -/
def State.pathLimits (mic ref minSegs maxSegs flags : Byte) (lead : BitVec 16) (s : State) : Answer :=
  match s.pathOperand mic ref, limitsOperand minSegs maxSegs flags lead with
  | some (m, r), some x =>
    let pending := s.modPath m r fun p => { p with limits := some x }
    answerOk (s.limitsBytes m r x) (if s.parked then pending.takeLimitsNow m r else pending)
  | _, _ => refuse .refusedRange s

/-- PATH.LIMITS (R74). -/
def execPathLimits (tag mic ref minSegs maxSegs flags : Byte) (lead : BitVec 16) (s : State) :
    Host.Outcome State Fault Refusal :=
  .next (s.request (.pathLimits tag mic ref minSegs maxSegs flags lead)
    (State.pathLimits mic ref minSegs maxSegs flags lead))

/-! ## Host flags -/

/-- What a request has made pending is taken at once in PARKED, and modes and output lines follow it (R56, R57, R144, R145,
R168). -/
def State.takeNow (take : State → State) (s : State) : State := if s.parked then (take s).settleParked else s

/-- The 16 pending host freeze flags (R57). -/
def State.freezeFlags (s : State) : BitVec 16 := micMask fun m => (s.mic m).talk.freezePending

/-- MIC.FREEZE's and MIC.THAW's answer (R57). -/
def State.setFreeze (mask : BitVec 16) (flag : Bool) (s : State) : Answer :=
  if s.maskConfigured mask then
    let t := s.forEach (allMics.filter (maskHas mask)) fun m u => u.modTalk m fun x => { x with freezePending := flag }
    answerOk (le2 t.freezeFlags.toNat) (t.takeNow fun u => u.forEach allMics State.takeFreeze)
  else refuse .refusedRange s

/-- MIC.FREEZE (R57). -/
def execMicFreeze (tag : Byte) (mask : BitVec 16) (s : State) : Host.Outcome State Fault Refusal :=
  .next (s.request (.micFreeze tag mask) (State.setFreeze mask true))

/-- MIC.THAW (R57). -/
def execMicThaw (tag : Byte) (mask : BitVec 16) (s : State) : Host.Outcome State Fault Refusal :=
  .next (s.request (.micThaw tag mask) (State.setFreeze mask false))

/-- The 16 pending host mute flags (R145). -/
def State.muteFlags (s : State) : BitVec 16 := micMask fun m => (s.mic m).out.mutePending

/-- MIC.MUTE's answer (R145). -/
def State.setMute (mask : BitVec 16) (action : Byte) (s : State) : Answer :=
  if action.toNat ≤ 1 ∧ s.maskConfigured mask then
    let t := s.forEach (allMics.filter (maskHas mask)) fun m u =>
      u.modOut m fun x => { x with mutePending := action == 1#8 }
    answerOk (le2 t.muteFlags.toNat) (t.takeNow fun u => u.forEach allMics State.takeMute)
  else refuse .refusedRange s

/-- MIC.MUTE (R145). -/
def execMicMute (tag : Byte) (mask : BitVec 16) (action : Byte) (s : State) : Host.Outcome State Fault Refusal :=
  .next (s.request (.micMute tag mask action) (State.setMute mask action))

/-- MIC.OUTPUT's answer (R144): the current and the pending source as the request leaves them. -/
def State.setSource (mic source : Byte) (s : State) : Answer :=
  match s.micOperand mic, Source.ofCode source.toNat with
  | some m, some x =>
    let t := (s.modOut m fun o => { o with sourcePending := x }).takeNow (State.takeSource m)
    answerOk [mic, byteOf (t.mic m).out.source.code, byteOf (t.mic m).out.sourcePending.code] t
  | _, _ => refuse .refusedRange s

/-- MIC.OUTPUT (R144). -/
def execMicOutput (tag mic source : Byte) (s : State) : Host.Outcome State Fault Refusal :=
  .next (s.request (.micOutput tag mic source) (State.setSource mic source))

/-! ## MIC.RESET -/

/-- The four chain lengths of a microphone (R159). -/
def State.chainBytes (s : State) (m : MicLane) : List Byte := allRefs.map fun r => byteOf (s.path m r).chain.length

/-- MIC.RESET's answer (R159). -/
def State.resetRequest (mic : Byte) (s : State) : Answer :=
  match s.micOperand mic with
  | some m =>
    if s.parked then
      let t := (s.micReset m).settleParked
      answerOk (mic :: 1#8 :: t.chainBytes m) t
    else
      let t := s.modMic m fun x => { x with resetPending := true }
      answerOk (mic :: 0#8 :: t.chainBytes m) t
  | none => refuse .refusedRange s

/-- MIC.RESET (R159). -/
def execMicReset (tag mic : Byte) (s : State) : Host.Outcome State Fault Refusal :=
  .next (s.request (.micReset tag mic) (State.resetRequest mic))

end Sys2Proof.Machine
end

