-- ==== Sys2Proof/Machine/CkptRequests.lean ====
section
/-! DEFINITION. The checkpoint requests: CKPT.PUSH (R109), CKPT.HOLD and CKPT.RELEASE (R121), CKPT.DISCARD (R122),
CKPT.RECALL (R120), and the ring summary of their replies (R124). -/

namespace Sys2Proof.Machine

/-! ## The ring summary (R124) -/

/-- Rollback count, sequence number, segments and frame number of a slot in the summary. An EMPTY slot shows 0; a FILLING
slot has no record yet and shows its reservation, its other fields free (assumption 6). -/
def State.summaryFields (m : MicLane) (k : SlotIndex) (s : State) : (Nat × Nat × Nat × Nat) × State :=
  match (s.slot m k).tag with
  | .filling =>
    ((s.draw.1, s.draw.2.draw.1, s.slotSegments m k, s.draw.2.draw.2.draw.1), s.draw.2.draw.2.draw.2)
  | .empty => ((0, 0, 0, 0), s)
  | .valid | .held =>
    match (s.slot m k).record with
    | some rec => ((rec.rollbacks, rec.sequence.toNat, s.slotSegments m k, rec.frame.toNat), s)
    | none => ((0, 0, 0, 0), s)

/-- The 13 bytes of one slot in the summary. -/
def State.slotSummary (m : MicLane) (k : SlotIndex) (s : State) : Answer :=
  let (f, t) := s.summaryFields m k
  (byteOf (s.slot m k).tag.code :: byteOf (packBits [(s.slot m k).exporting, (s.slot m k).command.isSome]) ::
    byteOf f.1 :: (le4 f.2.1 ++ le2 f.2.2.1 ++ le4 f.2.2.2), t)

/-- The ring summary of a microphone, 58 bytes (R124). -/
def State.ringSummary (m : MicLane) (s : State) : Answer :=
  allSlots.foldl
    (fun acc k => (acc.1 ++ (acc.2.slotSummary m k).1, (acc.2.slotSummary m k).2))
    (byteOf m.val :: byteOf (s.mic m).ring.top.val :: (le2 (s.mic m).ring.interval ++
      [flagByte (s.mic m).ring.pushPending, byteOf (match (s.mic m).ring.recallPending with
        | some k => k.val
        | none => 255)]), s)

/-- A status followed by the ring summary as the state now shows it (R124). -/
def answerRing (st : Status) (m : MicLane) (s : State) : Answer :=
  (st.byte :: (s.ringSummary m).1, (s.ringSummary m).2)

/-! ## CKPT.PUSH -/

/-- The status of a forced push taken in PARKED (R109). -/
def PushOutcome.status : PushOutcome → Status
  | .pushed => .ok
  | .ringFull => .refusedBusy
  | .noRoom => .noRoom
  | .halted => .refusedState

/-- CKPT.PUSH's answer (R109). -/
def State.pushRequest (mic : Byte) (s : State) : Answer :=
  match s.micOperand mic with
  | some m =>
    if (s.mic m).talk.halt then answerRing .refusedState m s
    else if s.parked then answerRing (s.forcedPush m).1.status m (s.forcedPush m).2.settleParked
    else answerRing .ok m (s.modRing m fun x => { x with pushPending := true })
  | none => refuse .refusedRange s

/-- CKPT.PUSH (R109). -/
def execCkptPush (tag mic : Byte) (s : State) : Host.Outcome State Fault Refusal :=
  .next (s.request (.ckptPush tag mic) (State.pushRequest mic))

/-! ## Slot commands -/

/-- An accepted slot command: pending while RUNNING, taken at once in PARKED (R123); nothing where it has no effect. -/
def State.acceptCommand (m : MicLane) (k : SlotIndex) (c : SlotCommand) (s : State) : State :=
  if (slotCommandStatus c (s.slot m k)).2 then
    if s.parked then s.doSlotCommand m k c else s.modSlot m k fun x => { x with command := some c }
  else s

/-- The answer of CKPT.HOLD, CKPT.RELEASE and CKPT.DISCARD (R121 to R123). -/
def State.slotRequest (c : SlotCommand) (mic slot : Byte) (s : State) : Answer :=
  match s.slotPair mic slot with
  | some (m, k) =>
    if (s.slot m k).command.isSome then answerRing .refusedBusy m s
    else answerRing (slotCommandStatus c (s.slot m k)).1 m (s.acceptCommand m k c)
  | none => refuse .refusedRange s

/-- CKPT.HOLD (R121). -/
def execCkptHold (tag mic slot : Byte) (s : State) : Host.Outcome State Fault Refusal :=
  .next (s.request (.ckptHold tag mic slot) (State.slotRequest .hold mic slot))

/-- CKPT.RELEASE (R121). -/
def execCkptRelease (tag mic slot : Byte) (s : State) : Host.Outcome State Fault Refusal :=
  .next (s.request (.ckptRelease tag mic slot) (State.slotRequest .release mic slot))

/-- CKPT.DISCARD (R122). -/
def execCkptDiscard (tag mic slot : Byte) (s : State) : Host.Outcome State Fault Refusal :=
  .next (s.request (.ckptDiscard tag mic slot) (State.slotRequest .discard mic slot))

/-! ## CKPT.RECALL -/

/-- CKPT.RECALL's answer (R120). -/
def State.recallRequest (mic slot : Byte) (s : State) : Answer :=
  match s.slotPair mic slot with
  | some (m, k) =>
    if !(s.slot m k).restorable then answerRing .refusedState m s
    else if (s.slot m k).command.isSome then answerRing .refusedBusy m s
    else if s.parked then
      match s.recallNow m k with
      | some done => answerRing (if done.1 = .zero then .noRoom else .ok) m done.2.settleParked
      | none => answerRing .refusedState m s
    else answerRing .ok m (s.modRing m fun x => { x with recallPending := some k })
  | none => refuse .refusedRange s

/-- CKPT.RECALL (R120). -/
def execCkptRecall (tag mic slot : Byte) (s : State) : Host.Outcome State Fault Refusal :=
  .next (s.request (.ckptRecall tag mic slot) (State.recallRequest mic slot))

end Sys2Proof.Machine
end

