-- ==== Sys2Proof/Machine/Images.lean ====
section
/-! DEFINITION. The image requests (Chapter 7): IMAGE.EXPORT (R129), IMAGE.READ (R130), IMAGE.IMPORT (R131, R132),
IMAGE.WRITE (R133, R134) and IMAGE.CLOSE (R135). -/

namespace Sys2Proof.Machine

/-! ## Image order and coefficient bytes (R128) -/

/-- One coefficient as 3 bytes, little-endian two's complement. -/
def coefBytes (w : Int) : List Byte := leBytes 3 (BitVec.ofInt 24 w).toNat

/-- The 192 bytes of a segment. -/
def segmentBytes (coefs : Vector Int 64) : List Byte := coefs.toList.flatMap coefBytes

/-- The coefficient three bytes spell. -/
def coefOf (a b c : Byte) : Int := (BitVec.ofNat 24 (ofLeBytes [a, b, c])).toInt

/-- The 64 coefficients the first 192 bytes of a list spell. -/
def coefsOf (data : List Byte) : Vector Int 64 :=
  tabulate 64 fun j => coefOf (data.getD (3 * j) 0#8) (data.getD (3 * j + 1) 0#8) (data.getD (3 * j + 2) 0#8)

/-- The segments of a session in image order. -/
def Session.segments (x : Session) : List SegIndex := x.entries.flatMap PathEntry.chain

/-- The segments chunk `k` carries: those numbered 4k to 4k+3 below S. -/
def Session.chunk (x : Session) (k : Nat) : List SegIndex := (x.segments.drop (4 * k)).take 4

/-- One entry of an image header (Table 7-1). -/
def PathEntry.headerBytes (e : PathEntry) : List Byte :=
  byteOf e.r.val :: (le2 e.lead ++ [byteOf e.chain.length])

/-- The image header of a record (Table 7-1). -/
def CkptRecord.header (x : CkptRecord) : List Byte :=
  1#8 :: byteOf x.trim :: byteOf x.erle :: byteOf (imageFlags x.settled x.sticky) :: byteOf x.entries.length ::
    x.entries.flatMap PathEntry.headerBytes

/-- The idle count of an open session restarts (R127). -/
def State.restartIdle (s : State) : State := { s with session := s.session.map fun x => { x with idle := 0 } }

/-! ## IMAGE.EXPORT -/

/-- The session an export of a record opens (R129). -/
def exportSession (m : MicLane) (k : SlotIndex) (rec : CkptRecord) : Session :=
  ⟨.exporting, m, k, rec.entries, 0, 0, rec.trim, rec.erle, rec.settled, rec.sticky⟩

/-- An export opens, and ends at once when it has no segments (R129). -/
def State.openExport (x : Session) (s : State) : State :=
  let opened := { s with session := some x }.modSlot x.m x.slot fun y => { y with exporting := true }
  if x.total = 0 then opened.endExport x .done 0 else opened

/-- IMAGE.EXPORT's answer, its checks in the order of R129. -/
def State.exportRequest (mic slot : Byte) (s : State) : Answer :=
  match s.slotPair mic slot with
  | none => refuse .refusedRange s
  | some (m, k) =>
    if s.session.isSome then refuse .refusedBusy s
    else if !(s.slot m k).restorable then refuse .refusedState s
    else match (s.slot m k).record with
      | none => refuse .refusedState s
      | some rec =>
        if rec.entries.isEmpty then refuse .refusedState s
        else
          let x := exportSession m k rec
          answerOk (le4 rec.sequence.toNat ++ le2 x.total ++ byteOf x.chunks :: rec.header) (s.openExport x)

/-- IMAGE.EXPORT (R129). -/
def execImageExport (tag mic slot : Byte) (s : State) : Host.Outcome State Fault Refusal :=
  .next (s.request (.imageExport tag mic slot) (State.exportRequest mic slot))

/-! ## IMAGE.READ -/

/-- The session after a chunk: cursor advanced, idle count 0 (R127, R130, R133). -/
def Session.advance (x : Session) : Session := { x with cursor := x.cursor + 1, idle := 0 }

/-- The coefficients of a chunk as they stand (R130). -/
def State.chunkBytes (s : State) (x : Session) : List Byte :=
  (x.chunk x.cursor).flatMap fun i => segmentBytes (s.segment i).coefs

/-- The export after a READ: ended when its last chunk has been read (R130). -/
def State.afterRead (x : Session) (s : State) : State :=
  if x.chunks ≤ x.advance.cursor then s.endExport x.advance .done 0 else { s with session := some x.advance }

/-- IMAGE.READ's answer (R130). -/
def State.readRequest (s : State) : Answer :=
  match s.session with
  | some x =>
    match x.kind with
    | .exporting => answerOk (le2 x.cursor ++ s.chunkBytes x) (s.afterRead x)
    | .importing => refuse .refusedState s.restartIdle
  | none => refuse .refusedState s

/-- IMAGE.READ (R130). -/
def execImageRead (tag : Byte) (s : State) : Host.Outcome State Fault Refusal :=
  .next (s.request (.imageRead tag) State.readRequest)

/-! ## Completion of an import (R134) -/

/-- A record's entries at completion, ascending lane: the header's, and an empty one for each enabled path it does not
list (R134). -/
def State.importEntries (s : State) (x : Session) : List PathEntry :=
  allRefs.filterMap fun r =>
    match x.entries.find? fun e => e.r == r with
    | some e => some e
    | none => if s.enabled x.m r then some ⟨r, 0, []⟩ else none

/-- The record an import leaves (R134). -/
def State.importRecord (s : State) (x : Session) : CkptRecord where
  sequence := nextSequence s.pushSequence
  frame := s.frameCounter
  trim := x.trim
  erle := x.erle
  settled := x.settled
  sticky := x.sticky
  rollbacks := 0
  entries := s.importEntries x

/-- Completion: the record in its slot, CKPT IMPORTED, and the session's end DONE (R134, R137). While RUNNING the CKPT report
carries the number of the frame in progress (assumption 54). -/
def State.completeImport (x : Session) (s : State) : State :=
  ((({ s with session := none, pushSequence := nextSequence s.pushSequence }.modSlot x.m x.slot fun y =>
    { y with tag := .valid, record := some (s.importRecord x) }).ckptReport x.m (some x.slot) 11 0
      (some (s.importRecord x).info)).imageReport x .done 0 (s.importRecord x).sequence.toNat)

/-! ## IMAGE.IMPORT -/

/-- The room A of an import: the free count, and the segments of the slot's record where the slot is VALID (R131). -/
def State.importRoom (s : State) (m : MicLane) (k : SlotIndex) : Nat :=
  s.freeCount + if (s.slot m k).tag = .valid then s.slotSegments m k else 0

/-- A refused header's fault and answer (R131). -/
def State.rejectHeader (m : MicLane) (k : SlotIndex) (why : Nat × Nat × Option Nat) (s : State) : Answer :=
  match why.2.2 with
  | some v =>
    refuse .refusedRange
      (s.fault .imageReject (some m) (detailOf k.val why.1 why.2.1 (min 255 v))).settleParked
  | none =>
    refuse .refusedRange
      (s.draw.2.fault .imageReject (some m) (detailOf k.val why.1 why.2.1 s.draw.1)).settleParked

/-- A refusal for want of room, with its fault (R131). -/
def State.rejectRoom (m : MicLane) (k : SlotIndex) (total room : Nat) (s : State) : Answer :=
  (Status.noRoom.byte :: (le2 total ++ le2 room),
    (s.fault .imageReject (some m) (detailOf k.val 9 255 (min 255 (total - room)))).settleParked)

/-- The session an import's header opens with the segments reserved for it (R132). -/
def importSession (m : MicLane) (k : SlotIndex) (h : List Byte) (segs : List SegIndex) : Session :=
  ⟨.importing, m, k, headerEntries h segs, 0, 0, headerByte h 1, headerByte h 2, headerSettled h, headerSticky h⟩

/-- Steps 1 to 3 of R132: the slot's record released, S segments reserved, the slot FILLING and the session open. -/
def State.openImport (m : MicLane) (k : SlotIndex) (h : List Byte) (s : State) : Session × State :=
  let cleared := if (s.slot m k).tag = .valid then s.emptySlot m k else s
  let x := importSession m k h (cleared.nextSegments (headerSegments h))
  let reserved := (cleared.take (headerSegments h)).forEach x.entries fun e t =>
    t.own (Owner.checkpoint m k e.r) e.chain
  (x, { reserved with session := some x }.modSlot m k fun y => { y with tag := .filling, record := none })

/-- An accepted import's answer (R132, R134). -/
def State.acceptImport (m : MicLane) (k : SlotIndex) (h : List Byte) (s : State) : Answer :=
  let (x, t) := s.openImport m k h
  let bytes := le2 x.total ++ byteOf x.chunks :: le4 (s.slotSequence m k)
  if x.total = 0 then
    answerOk (bytes ++ le4 (t.importRecord x).sequence.toNat) (t.completeImport x)
  else answerOk bytes t

/-- Whether an import may open on a slot: EMPTY or VALID (R131, check 3). -/
def Slot.importable (x : Slot) : Bool := x.tag == .empty || x.tag == .valid

/-- IMAGE.IMPORT's answer, its checks in the order of R131. -/
def State.importRequest (mic slot : Byte) (h : List Byte) (s : State) : Answer :=
  match s.slotPair mic slot with
  | none => refuse .refusedRange s
  | some (m, k) =>
    if s.session.isSome then refuse .refusedBusy s
    else if !(s.slot m k).importable then refuse .refusedState s
    else match headerFailure s.layout h with
      | some why => s.rejectHeader m k why
      | none =>
        if s.importRoom m k < headerSegments h then s.rejectRoom m k (headerSegments h) (s.importRoom m k)
        else s.acceptImport m k h

/-- IMAGE.IMPORT (R131). -/
def execImageImport (tag mic slot : Byte) (header : List Byte) (s : State) : Host.Outcome State Fault Refusal :=
  .next (s.request (.imageImport tag mic slot header) (State.importRequest mic slot header))

/-! ## IMAGE.WRITE -/

/-- A chunk's coefficients written into the reserved segments (R133). -/
def State.writeChunk (x : Session) (data : List Byte) (s : State) : State :=
  s.forEach (x.chunk x.cursor).zipIdx fun q t =>
    t.modSegment q.1 fun y => { y with coefs := coefsOf (data.drop (192 * q.2)) }

/-- Whether a write's index and length match the cursor (R133). -/
def Session.accepts (x : Session) (index : BitVec 16) (data : List Byte) : Bool :=
  index.toNat == x.cursor && data.length == 192 * (x.chunk x.cursor).length && !(x.chunk x.cursor).isEmpty

/-- The cursor and the chunks still to be written (R133). -/
def Session.progress (x : Session) : List Byte := le2 x.cursor ++ [byteOf (x.chunks - x.cursor)]

/-- An accepted write's answer (R133, R134). -/
def State.acceptWrite (x : Session) (data : List Byte) (s : State) : Answer :=
  let t := { s.writeChunk x data with session := some x.advance }
  if x.chunks ≤ x.advance.cursor then
    answerOk (x.advance.progress ++ le4 (t.importRecord x.advance).sequence.toNat) (t.completeImport x.advance)
  else answerOk x.advance.progress t

/-- IMAGE.WRITE's answer (R133). -/
def State.writeRequest (index : BitVec 16) (data : List Byte) (s : State) : Answer :=
  match s.session with
  | some x =>
    match x.kind with
    | .importing =>
      if x.accepts index data then s.acceptWrite x data
      else (Status.refusedRange.byte :: x.progress, s.restartIdle)
    | .exporting => refuse .refusedState s.restartIdle
  | none => refuse .refusedState s

/-- IMAGE.WRITE (R133). -/
def execImageWrite (tag : Byte) (index : BitVec 16) (data : List Byte) (s : State) :
    Host.Outcome State Fault Refusal :=
  .next (s.request (.imageWrite tag index data) (State.writeRequest index data))

/-! ## IMAGE.CLOSE -/

/-- IMAGE.CLOSE's answer (R135). -/
def State.closeRequest (s : State) : Answer :=
  match s.session with
  | some x => answerOk [] (s.endSession x .closed 0)
  | none => refuse .refusedState s

/-- IMAGE.CLOSE (R135). -/
def execImageClose (tag : Byte) (s : State) : Host.Outcome State Fault Refusal :=
  .next (s.request (.imageClose tag) State.closeRequest)

end Sys2Proof.Machine
end

