-- ==== Sys2Proof/Machine/Queries.lean ====
section
/-! DEFINITION. The requests that only read: QUERY.MIC (R58), QUERY.POOL (R81) and QUERY.PATH (R82). -/

namespace Sys2Proof.Machine

/-! ## QUERY.MIC -/

/-- The causes byte of Table 3-5. -/
def TalkRecord.causes (t : TalkRecord) : Nat := packBits [t.freeze, t.freezePending, t.levelHold, t.halt]

/-- The mute byte of Table 3-5. -/
def OutRecord.muteBits (o : OutRecord) : Nat := packBits [o.mute, o.lineMute]

/-- The fields of Table 3-5 in order, without the frame counter. -/
def Mic.bytes (m : MicLane) (x : Mic) : List Byte :=
  [byteOf m.val, byteOf x.talk.talk.code, byteOf x.talk.mode.code, byteOf x.talk.causes, byteOf x.holdSpan,
    byteOf x.talk.nearHang, byteOf x.talk.farHang, byteOf x.talk.erle, flagByte x.talk.settled,
    byteOf x.talk.divCount, byteOf x.engine.sticky.bits, byteOf x.trim, byteOf x.trimPending] ++
  le4 x.engine.ed ++ le4 x.engine.ey ++ le4 x.engine.ee ++ le4 x.talk.edSmooth ++ le4 x.talk.eeSmooth ++
  le4 x.out.floor ++ le2 x.out.gain ++ [byteOf x.out.muteBits, byteOf x.out.source.code]

/-- QUERY.MIC's answer (R58): each value as it now stands. Where a frame end is open between two of its events, that is
what its work has so far left, beside the mode of the frame before (assumption 49). -/
def State.queryMic (mic : Byte) (s : State) : Answer :=
  match s.micOperand mic with
  | some m => answerOk ((s.mic m).bytes m ++ s.counterBytes) s
  | none => refuse .refusedRange s

/-- QUERY.MIC (R58). -/
def execQueryMic (tag mic : Byte) (s : State) : Host.Outcome State Fault Refusal :=
  .next (s.request (.queryMic tag mic) (State.queryMic mic))

/-! ## QUERY.POOL -/

/-- A segment index that may be absent: 0xFFFF (R81). -/
def indexBytes (i : Option SegIndex) : List Byte := le2 (match i with
  | some x => x.val
  | none => 0xFFFF)

/-- The device part of QUERY.POOL's reply (R81). -/
def State.poolBytes (s : State) : List Byte :=
  le2 Config.poolSize ++ le2 Config.capacity ++ le2 s.freeCount ++ le2 s.activeCount ++ le2 s.checkpointCount ++
    indexBytes s.freeList.head? ++ indexBytes s.freeList.getLast? ++ byteOf s.queue.length ::
      (allMics.flatMap (fun m => le2 (s.micActive m)) ++ allMics.flatMap (fun m => le2 (s.micCheckpoint m)) ++
        s.counterBytes)

/-- State, owner microphone, reference lane, position and slot of a segment (R81). -/
def Owner.bytes : Owner → List Byte
  | .free => [0#8, 255#8, 255#8, 255#8, 255#8]
  | .active m r position => [1#8, byteOf m.val, byteOf r.val, byteOf position, 255#8]
  | .checkpoint m slot r position => [2#8, byteOf m.val, byteOf r.val, byteOf position, byteOf slot.val]

/-- The place of a segment in the free list, 0xFFFF when it is not FREE (R81). -/
def State.freePlace (s : State) (i : SegIndex) : Nat :=
  if (s.segment i).owner = .free then s.freeList.idxOf i else 0xFFFF

/-- The record of one segment (R81). -/
def State.segmentRecord (s : State) (i : SegIndex) : List Byte :=
  le2 i.val ++ (s.segment i).owner.bytes ++ leBytes 5 (s.segment i).energy ++ le2 (s.freePlace i)

/-- QUERY.POOL's answer (R81): each value as it now stands, within a frame end that stands open too (assumption 49). -/
def State.queryPool (segment : Option (BitVec 16)) (s : State) : Answer :=
  match segment with
  | none => answerOk s.poolBytes s
  | some x =>
    match segmentOperand x with
    | some i => answerOk (s.poolBytes ++ s.segmentRecord i) s
    | none => refuse .refusedRange s

/-- QUERY.POOL (R81). -/
def execQueryPool (tag : Byte) (segment : Option (BitVec 16)) (s : State) : Host.Outcome State Fault Refusal :=
  .next (s.request (.queryPool tag segment) (State.queryPool segment))

/-! ## QUERY.PATH -/

/-- The queued request of a path (R82). -/
def State.queuedRequest (s : State) (m : MicLane) (r : RefLane) : Option GrowRequest :=
  s.queue.find? fun q => q.m == m && q.r == r

/-- The flags byte of QUERY.PATH's reply (R82). -/
def State.pathFlags (s : State) (m : MicLane) (r : RefLane) : Nat :=
  packBits [(s.path m r).pinned, (s.queuedRequest m r).isSome,
    (match s.queuedRequest m r with
      | some q => q.kind == .head
      | none => false),
    (s.path m r).limits.isSome,
    (match (s.path m r).limits with
      | some x => x.pinned
      | none => false),
    (s.path m r).gate]

/-- The pending limits' bytes of QUERY.PATH's reply: 0, 0 and 0xFFFF where there are none (R82). -/
def pendingBytes (x : Option PendingLimits) : List Byte :=
  match x with
  | some l => byteOf l.minSegs :: byteOf l.maxSegs :: le2 (l.lead.getD 0xFFFF)
  | none => 0#8 :: 0#8 :: le2 0xFFFF

/-- The bytes of QUERY.PATH's reply after its status (R82): the fill count is the one the last frame end, ENGINE.RUN,
ENGINE.PARK or LAYOUT.SET left (assumption 43). -/
def State.pathBytes (s : State) (m : MicLane) (r : RefLane) : List Byte :=
  [byteOf m.val, byteOf r.val, byteOf (s.pathFlags m r), byteOf (s.path m r).minSegs, byteOf (s.path m r).maxSegs,
    byteOf s.layout.initialSegs] ++
  le2 (s.path m r).lead ++ byteOf (s.path m r).chain.length :: (le2 (s.path m r).window ++
  pendingBytes (s.path m r).limits ++ le4 (s.path m r).gain ++ le4 (s.ref r).power ++ le2 (s.fillsShown.get r) ++
  [byteOf (s.path m r).openGates, byteOf (match s.queuedRequest m r with
    | some q => q.waited
    | none => 0)] ++
  leBytes 6 (s.totalEnergy m r) ++ leBytes 5 (s.firstEnergy m r) ++ leBytes 5 (s.lastEnergy m r) ++
  (s.path m r).chain.flatMap (fun i => le2 i.val))

/-- QUERY.PATH's answer (R82): each field as it now stands, within a frame end that stands open too, beside the gain, the gate
and the fill of the frame before (assumptions 43 and 49). -/
def State.queryPath (mic ref : Byte) (s : State) : Answer :=
  match s.pathOperand mic ref with
  | some (m, r) => answerOk (s.pathBytes m r) s
  | none => refuse .refusedRange s

/-- QUERY.PATH (R82). -/
def execQueryPath (tag mic ref : Byte) (s : State) : Host.Outcome State Fault Refusal :=
  .next (s.request (.queryPath tag mic ref) (State.queryPath mic ref))

end Sys2Proof.Machine
end

