-- ==== Sys2Proof/Machine/FaultRequests.lean ====
section
/-! DEFINITION. Chapter 11's requests: FAULT.READ (R182), FAULT.CLEAR (R181), FAULT.SET (R180) and NOTIFY.SET (R178). -/

namespace Sys2Proof.Machine

/-! ## FAULT.READ -/

/-- The first-fault record as FAULT.READ returns it, 11 bytes (R182). -/
def firstBytes (x : Option FirstFault) : List Byte :=
  match x with
  | some f => 1#8 :: byteOf f.kind.code.val :: byteOf f.lane :: (le4 f.frame.toNat ++ f.detail.bytes)
  | none => List.replicate 11 0#8

/-- The sixteen halt flags (R182). -/
def State.haltFlags (s : State) : BitVec 16 := micMask fun m => (s.mic m).talk.halt

/-- The 72 bytes of FAULT.READ's reply after its status (R182). -/
def State.faultBytes (s : State) : List Byte :=
  firstBytes s.link.first ++ s.link.faults.toList.flatMap FaultEntry.bytes ++ le2 s.haltFlags.toNat ++ s.counterBytes

/-- FAULT.READ (R182). -/
def execFaultRead (tag : Byte) (s : State) : Host.Outcome State Fault Refusal :=
  .next (s.request (.faultRead tag) fun t => answerOk t.faultBytes t)

/-! ## FAULT.CLEAR -/

/-- The microphone-scoped kinds of a kind set. -/
def micKinds (kinds : BitVec 16) : BitVec 16 := kinds &&& 0x003F#16

/-- The clear one FAULT.CLEAR asks for (R181). -/
def clearOf (kinds mics : BitVec 16) : PendingClear :=
  ⟨kinds, tabulate 16 fun m => if mics.getLsbD m then micKinds kinds else 0#16⟩

/-- Two clears added together (R181). -/
def PendingClear.add (a b : PendingClear) : PendingClear :=
  ⟨a.kinds ||| b.kinds, tabulate 16 fun m => a.mics.get (Fin.ofNat 16 m) ||| b.mics.get (Fin.ofNat 16 m)⟩

/-- The pending clear with one more FAULT.CLEAR (R181). -/
def Link.addClear (c : PendingClear) (l : Link) : Link :=
  { l with clear := match l.clear with
    | some x => some (x.add c)
    | none => some c }

/-- FAULT.CLEAR's answer (R181). -/
def State.clearRequest (kinds mics : BitVec 16) (s : State) : Answer :=
  if kinds &&& 0xF800#16 ≠ 0#16 then refuse .refusedRange s
  else if s.parked then answerOk [1#8] (s.takeClear (clearOf kinds mics)).settleParked
  else answerOk [0#8] (s.modLink (Link.addClear (clearOf kinds mics)))

/-- FAULT.CLEAR (R181). -/
def execFaultClear (tag : Byte) (kinds mics : BitVec 16) (s : State) : Host.Outcome State Fault Refusal :=
  .next (s.request (.faultClear tag kinds mics) (State.clearRequest kinds mics))

/-! ## FAULT.SET -/

/-- FAULT.SET's values lie in range: no device-scoped kind made HALTING (R180). -/
def faultSetAccepted (k : FaultKind) (maskValue severity : Byte) : Bool :=
  decide (maskValue.toNat ≤ 1) && (severity == 0#8 || (severity == 1#8 && k.micScoped))

/-- An entry with its mask and severity replaced (R180). -/
def FaultEntry.set (maskValue severity : Byte) (e : FaultEntry) : FaultEntry :=
  { e with masked := maskValue == 1#8, severity := if severity = 1#8 then .halting else .advisory }

/-- FAULT.SET's answer (R180). -/
def State.faultSet (kind maskValue severity : Byte) (s : State) : Answer :=
  match FaultKind.ofCode kind.toNat with
  | some k =>
    if faultSetAccepted k maskValue severity then
      let t := s.modFault k (FaultEntry.set maskValue severity)
      answerOk (kind :: (t.faultEntry k).bytes) t
    else refuse .refusedRange s
  | none => refuse .refusedRange s

/-- FAULT.SET (R180). -/
def execFaultSet (tag kind maskValue severity : Byte) (s : State) : Host.Outcome State Fault Refusal :=
  .next (s.request (.faultSet tag kind maskValue severity) (State.faultSet kind maskValue severity))

/-! ## NOTIFY.SET -/

/-- The masks replaced, and a PENDING report where a class unmasked has its flag set and there is room (R176, R178). -/
def State.setMasks (mask : BitVec 16) (s : State) : State :=
  s.modLink fun l => { l with masks := mask }.reportPending s.frameCounter

/-- NOTIFY.SET's answer (R178). -/
def State.notifySet (mask : BitVec 16) (s : State) : Answer :=
  if mask &&& 0xFC00#16 ≠ 0#16 then refuse .refusedRange s
  else
    answerOk (le2 (s.setMasks mask).link.masks.toNat ++ le2 (s.setMasks mask).link.flags.toNat) (s.setMasks mask)

/-- NOTIFY.SET (R178). -/
def execNotifySet (tag : Byte) (mask : BitVec 16) (s : State) : Host.Outcome State Fault Refusal :=
  .next (s.request (.notifySet tag mask) (State.notifySet mask))

end Sys2Proof.Machine
end

