-- ==== Sys2Proof/Machine/LineRequests.lean ====
section
/-! DEFINITION. Chapter 10's requests: LINE.SET (R166), LINE.PULSE (R167) and LINE.GET (R169). -/

namespace Sys2Proof.Machine

/-! ## LINE.SET -/

/-- An input entry becomes the line's pending entry, taken at acceptance in PARKED (R166). -/
def State.setInEntry (k : InLineIndex) (e : InEntry) (s : State) : State :=
  (s.modInLine k fun x => { x with pendingEntry := some e }).takeNow fun t => t.modInLine k InLine.takeEntry

/-- An output entry becomes the line's pending entry, taken at acceptance in PARKED, where the line then takes its value
(R166, R168). -/
def State.setOutEntry (k : OutLineIndex) (e : OutEntry) (s : State) : State :=
  (s.modOutLine k fun x => { x with pendingEntry := some e }).takeNow fun t => t.modOutLine k OutLine.takeEntry

/-- LINE.SET's answer (R166). -/
def State.lineSet (kind line flags code argument : Byte) (mask : BitVec 16) (s : State) : Answer :=
  if kind = 0#8 then
    match inLineOperand line, inEntryOperand flags code argument mask with
    | some k, some e =>
      answerOk (kind :: line :: flags :: code :: argument :: le2 mask.toNat)
        (s.setInEntry k e)
    | _, _ => refuse .refusedRange s
  else if kind = 1#8 then
    match outLineOperand line, outEntryOperand flags code argument mask with
    | some k, some e =>
      answerOk (kind :: line :: flags :: code :: argument :: le2 mask.toNat)
        (s.setOutEntry k e)
    | _, _ => refuse .refusedRange s
  else refuse .refusedRange s

/-- LINE.SET (R166). -/
def execLineSet (tag kind line flags code argument : Byte) (mask : BitVec 16) (s : State) :
    Host.Outcome State Fault Refusal :=
  .next (s.request (.lineSet tag kind line flags code argument mask) (State.lineSet kind line flags code argument mask))

/-! ## LINE.PULSE -/

/-- Whether a line's action takes pulses: an event action (R167). -/
def LineAction.takesPulse (a : LineAction) : Bool := a != .none && !a.isLevel

/-- LINE.PULSE's answer (R167). -/
def State.linePulse (line : Byte) (s : State) : Answer :=
  match inLineOperand line with
  | some k =>
    if s.parked || !(s.inLines.get k).entry.action.takesPulse then refuse .refusedState s
    else answerOk [line] (s.modInLine k fun x => { x with pulse := true })
  | none => refuse .refusedRange s

/-- LINE.PULSE (R167). -/
def execLinePulse (tag line : Byte) (s : State) : Host.Outcome State Fault Refusal :=
  .next (s.request (.linePulse tag line) (State.linePulse line))

/-! ## LINE.GET -/

/-- The flags byte of an input line (R169). -/
def InLine.flagBits (x : InLine) : Nat :=
  packBits [x.entry.invert, decide (x.entry.edge.code % 2 = 1), decide (2 ≤ x.entry.edge.code), x.pendingEntry.isSome,
    x.last, x.latch, x.pulse, x.active]

/-- The hold-span byte of an input line: the largest countdown among the configured microphones a HOLD_SPAN line masks,
0 for any other action (R169). -/
def State.holdSpanByte (s : State) (x : InLine) : Nat :=
  if x.entry.action = .holdSpan then (s.covered x.entry.mask).foldl (fun best m => max best (s.mic m).holdSpan) 0 else 0

/-- The 6 bytes of an input line (R169). -/
def State.inLineBytes (s : State) (x : InLine) : List Byte :=
  byteOf x.flagBits :: byteOf x.entry.action.code :: byteOf x.entry.argument ::
    (le2 x.entry.mask.toNat ++ [byteOf (s.holdSpanByte x)])

/-- The 4 bytes of an output line (R169). -/
def OutLine.bytes (x : OutLine) : List Byte :=
  byteOf x.entry.source.code :: byteOf (packBits [x.entry.invert, x.pendingEntry.isSome, x.value]) ::
    le2 x.entry.mask.toNat

/-- The 68 bytes of LINE.GET's reply after its status (R169). -/
def State.lineBytes (s : State) : List Byte :=
  s.inLines.toList.flatMap s.inLineBytes ++ s.outLines.toList.flatMap OutLine.bytes ++ s.counterBytes

/-- LINE.GET (R169). -/
def execLineGet (tag : Byte) (s : State) : Host.Outcome State Fault Refusal :=
  .next (s.request (.lineGet tag) fun t => answerOk t.lineBytes t)

end Sys2Proof.Machine
end

