-- ==== Sys2Proof/Machine/FrameEvents.lean ====
section
/-! DEFINITION. FRAME_END (R4) and the events of a frame end that the table lists by themselves. An event's command opens
the frame end that is due, takes the work that must precede the event, and takes the event; the rest of the frame end
stays to be taken by FRAME_END or by the next sample. Where the event does not occur the command changes nothing
(assumption 4). -/

namespace Sys2Proof.Machine

/-- FRAME_END (R4): the whole of the frame end that is due or in progress; none while samples are being taken or while
PARKED. -/
def execFrameEnd (s : State) : Host.Outcome State Fault Refusal := .next s.frameEnd

/-- An event of a frame end: the work `before` it, then its own piece of work `t` where that is still to be taken and
`occurs` holds. The rest of the frame end stands open, and a request accepted before it is taken acts at this frame end
where its piece still waits, and at the next where it has been taken (assumption 4). -/
def State.frameEvent (before : Task → Bool) (t : Task) (occurs : State → Bool) (s : State) : State :=
  if s.frameEnding && (s.approach before).awaits t && occurs (s.approach before) then
    ((s.approach before).foreseen t).takeTask t
  else s

/-- No work comes before the event. -/
def noneBefore (_ : Task) : Bool := false

/-! ## The events -/

/-- REF_LOST (R9): the silence count reaches 4. -/
def execRefLost (s : State) : Host.Outcome State Fault Refusal :=
  .next (s.frameEvent noneBefore .loss fun t => t.port.becomesLost)

/-- The work an evaluation waits for: the loss state and the talk work (R86, R87), and the rest of granting where a GRANT
has begun it (R94). -/
def beforeEvaluation (grantBegun : Bool) (t : Task) : Bool :=
  match t with
  | .loss => true
  | .talk _ => true
  | .granting => grantBegun
  | _ => false

/-- A GRANT has been commanded at the frame end in progress (R94). -/
def State.grantBegun (s : State) : Bool :=
  match s.phase with
  | .taking w => w.grantBegun
  | .sampling => false
  | .due => false

/-- EVALUATION_FRAME_END (R86): the rebalance count has reached REBAL_FRAMES. -/
def execEvaluationFrameEnd (s : State) : Host.Outcome State Fault Refusal :=
  .next (s.frameEvent (beforeEvaluation s.grantBegun) .evaluation fun _ => true)

/-- The state a grant leaves, where granting at this frame end makes one (R94, R95). -/
def State.granted (s : State) : Option State :=
  if s.frameEnding && s.openFrame.awaits .granting then s.openFrame.grantOnce (s.openFrame.queue.length + 1) else none

/-- GRANT (R95): one grant to the request at the head; invalid heads before it are removed (R94). Further grants and
the waiting of the head remain to be taken, before any further request is enqueued, so that no path gains two segments. -/
def execGrant (s : State) : Host.Outcome State Fault Refusal :=
  match s.granted with
  | some t => .next (t.modWork fun w => { w with grantBegun := true })
  | none => .next s

/-- REQUEST_TIMEOUT (R98): granting has ended with a blocked head whose wait count stands at 125. -/
def execRequestTimeout (s : State) : Host.Outcome State Fault Refusal :=
  .next (s.frameEvent noneBefore .granting fun t => (t.grantAll (t.queue.length + 1)).headTimesOut)

/-- The idle count of the open session reaches 250 at this frame end (R127). -/
def State.sessionTimesOut (s : State) : Bool :=
  match s.session with
  | some x => decide (Config.idleLimit ≤ x.idle + 1)
  | none => false

/-- SESSION_TIMEOUT (R135). -/
def execSessionTimeout (s : State) : Host.Outcome State Fault Refusal :=
  .next (s.frameEvent noneBefore .sessionIdle State.sessionTimesOut)

/-- The countdown stands at 0 with a set staged before this frame end (R157, R158). -/
def State.commitDue (s : State) : Bool :=
  match s.phase with
  | .taking w => s.staged.isSome && !w.stagedNow && s.countdown == 0
  | .sampling => false
  | .due => false

/-- COMMIT_APPLICATION (R158). -/
def execCommitApplication (s : State) : Host.Outcome State Fault Refusal :=
  .next (s.frameEvent noneBefore .commit State.commitDue)

/-- The work a hold span's end waits for: step 1 of R163. -/
def beforeSpans (t : Task) : Bool := t == .lineForm

/-- HOLD_SPAN_END of microphone `m` (R163, R164): its countdown goes from 1 to 0 at step 2. -/
def execHoldSpanEnd (m : MicLane) (s : State) : Host.Outcome State Fault Refusal :=
  .next (s.frameEvent beforeSpans .lineSpans fun t => (t.mic m).holdSpan == 1)

/-- The work a divergence event waits for: the loss state and the talk work of its microphone (R43, R52). -/
def beforeRollback (m : MicLane) (t : Task) : Bool := t == .loss || t == .talk m

/-- The Talk Detector has handed over a divergence event of microphone `m` (R52). -/
def State.divergenceDue (m : MicLane) (s : State) : Bool :=
  match s.phase with
  | .taking w => (match w.handover.get m with
    | some h => h.event
    | none => false)
  | .sampling => false
  | .due => false

/-- DIVERGENCE_EVENT of microphone `m` (R52, R114): the count returns to 0 and the microphone is rolled back. -/
def execDivergenceEvent (m : MicLane) (s : State) : Host.Outcome State Fault Refusal :=
  .next (s.frameEvent (beforeRollback m) (.rollback m) (State.divergenceDue m))

end Sys2Proof.Machine
end

