-- ==== Sys2Proof/Machine/Dispatch.lean ====
section
/-! DEFINITION. The dispatch: one meaning for each command of the table, in the table's order. -/

namespace Sys2Proof.Machine

/-- The effect of a command on everything but the queue of commands. -/
def exec (i : Instr) (s : State) : Host.Outcome State Fault Refusal :=
  match i with
  | .powerOn => Sys2Proof.Machine.execPowerOn s
  | .resetn => Sys2Proof.Machine.execResetn s
  | .captureSample slots pins => Sys2Proof.Machine.execCaptureSample slots pins s
  | .frameEnd => Sys2Proof.Machine.execFrameEnd s
  | .referenceArrival slots => Sys2Proof.Machine.execReferenceArrival slots s
  | .refLost => Sys2Proof.Machine.execRefLost s
  | .evaluationFrameEnd => Sys2Proof.Machine.execEvaluationFrameEnd s
  | .grant => Sys2Proof.Machine.execGrant s
  | .requestTimeout => Sys2Proof.Machine.execRequestTimeout s
  | .sessionTimeout => Sys2Proof.Machine.execSessionTimeout s
  | .commitApplication => Sys2Proof.Machine.execCommitApplication s
  | .holdSpanEnd m => Sys2Proof.Machine.execHoldSpanEnd m s
  | .divergenceEvent m => Sys2Proof.Machine.execDivergenceEvent m s
  | .restartCompletion => Sys2Proof.Machine.execRestartCompletion s
  | .inboundFrameDiscarded bytes => Sys2Proof.Machine.execInboundFrameDiscarded bytes s
  | .unknownKind kind tag payload => Sys2Proof.Machine.execUnknownKind kind tag payload s
  | .read clocked => Sys2Proof.Machine.execRead clocked s
  | .ignoredTransaction sent => Sys2Proof.Machine.execIgnoredTransaction sent s
  | .ident tag => Sys2Proof.Machine.execIdent tag s
  | .restart tag => Sys2Proof.Machine.execRestart tag s
  | .engineRun tag => Sys2Proof.Machine.execEngineRun tag s
  | .enginePark tag => Sys2Proof.Machine.execEnginePark tag s
  | .layoutSet tag micLanes refLanes mask initialSegs => Sys2Proof.Machine.execLayoutSet tag micLanes refLanes mask initialSegs s
  | .layoutGet tag => Sys2Proof.Machine.execLayoutGet tag s
  | .paramSet tag id value => Sys2Proof.Machine.execParamSet tag id value s
  | .paramGet tag selector => Sys2Proof.Machine.execParamGet tag selector s
  | .paramCommit tag latency => Sys2Proof.Machine.execParamCommit tag latency s
  | .trim tag codes => Sys2Proof.Machine.execTrim tag codes s
  | .pathLimits tag mic ref minSegs maxSegs flags lead => Sys2Proof.Machine.execPathLimits tag mic ref minSegs maxSegs flags lead s
  | .micFreeze tag mask => Sys2Proof.Machine.execMicFreeze tag mask s
  | .micThaw tag mask => Sys2Proof.Machine.execMicThaw tag mask s
  | .micMute tag mask action => Sys2Proof.Machine.execMicMute tag mask action s
  | .micOutput tag mic source => Sys2Proof.Machine.execMicOutput tag mic source s
  | .micReset tag mic => Sys2Proof.Machine.execMicReset tag mic s
  | .ckptPush tag mic => Sys2Proof.Machine.execCkptPush tag mic s
  | .ckptHold tag mic slot => Sys2Proof.Machine.execCkptHold tag mic slot s
  | .ckptRelease tag mic slot => Sys2Proof.Machine.execCkptRelease tag mic slot s
  | .ckptDiscard tag mic slot => Sys2Proof.Machine.execCkptDiscard tag mic slot s
  | .ckptRecall tag mic slot => Sys2Proof.Machine.execCkptRecall tag mic slot s
  | .imageExport tag mic slot => Sys2Proof.Machine.execImageExport tag mic slot s
  | .imageRead tag => Sys2Proof.Machine.execImageRead tag s
  | .imageImport tag mic slot header => Sys2Proof.Machine.execImageImport tag mic slot header s
  | .imageWrite tag index data => Sys2Proof.Machine.execImageWrite tag index data s
  | .imageClose tag => Sys2Proof.Machine.execImageClose tag s
  | .queryMic tag mic => Sys2Proof.Machine.execQueryMic tag mic s
  | .queryPool tag segment => Sys2Proof.Machine.execQueryPool tag segment s
  | .queryPath tag mic ref => Sys2Proof.Machine.execQueryPath tag mic ref s
  | .faultRead tag => Sys2Proof.Machine.execFaultRead tag s
  | .faultClear tag kinds mics => Sys2Proof.Machine.execFaultClear tag kinds mics s
  | .faultSet tag kind maskValue severity => Sys2Proof.Machine.execFaultSet tag kind maskValue severity s
  | .notifySet tag mask => Sys2Proof.Machine.execNotifySet tag mask s
  | .lineSet tag kind line flags code argument mask => Sys2Proof.Machine.execLineSet tag kind line flags code argument mask s
  | .linePulse tag line => Sys2Proof.Machine.execLinePulse tag line s
  | .lineGet tag => Sys2Proof.Machine.execLineGet tag s

end Sys2Proof.Machine
end

