-- ==== Sys2Proof/Safety.lean ====
section
/-! DEFINITION. What counts as a sound state and a safe run, in the terms the statements use. -/

namespace Sys2Proof.Machine

/-! ## The link -/

/-- The request slot is empty, so that a request is accepted (R172, check 1). -/
def State.accepting (s : State) : Prop := s.link.request = none

/-- Between `s` and `t` the link took the request `f` and was given the reply of the payload, and nothing else of it
changed (R173, R174). -/
def State.repliedTo (f : Frame) (payload : List Byte) (s t : State) : Prop :=
  t.link = { s.link with
    request := some f
    reply := some ⟨f.kind + 0x80#8, f.tag, payload⟩
    sdo := List.replicate (8 + f.payload.length) 0#8 }

/-- The request and reply slots are full together, and the report queue holds at most 32 reports (R173, R176). -/
def Link.sound (l : Link) : Prop := l.request.isSome = l.reply.isSome ∧ l.reports.length ≤ 32

/-! ## Tuning sets -/

/-- Every numeric parameter of a set lies in its range and NOISE_TAPS has bit 15 set (Table 9-1). -/
def Params.inRange (p : Params) : Prop :=
  (∀ id lo hi, paramRange id = some (lo, hi) → lo ≤ p.value id ∧ p.value id ≤ hi) ∧ p.noiseTaps.msb = true

/-- A set the cross-clamps leave: GROW_SHIFT below TAIL_SHIFT, ADAPT_MIN no greater than REBAL_FRAMES (R157). -/
def Params.crossClamped (p : Params) : Prop := p.growShift < p.tailShift ∧ p.adaptMin ≤ p.rebalFrames

/-- Every set the part holds is in range, and every set past the shadow is cross-clamped, the set a frame end in progress
reads among them (R155, R157). -/
def State.tuningSound (s : State) : Prop :=
  s.shadow.inRange ∧ (s.active.inRange ∧ s.active.crossClamped) ∧
    (∀ x, s.staged = some x → x.params.inRange ∧ x.params.crossClamped) ∧
      (∀ w, s.phase = .taking w → w.governing.inRange ∧ w.governing.crossClamped)

/-- Every noise generator state is nonzero (R141). -/
def State.generatorsRun (s : State) : Prop := ∀ m, (s.mic m).out.generator ≠ 0#16

/-! ## Output lines -/

/-- Some configured microphone of a mask is as `p` says. -/
def State.someMasked (s : State) (mask : BitVec 16) (p : MicLane → Prop) : Prop :=
  ∃ m : MicLane, m.val < s.layout.mics ∧ mask.getLsbD m.val = true ∧ p m

/-- The source of an output entry is high, before inversion, with no rollback to show (R168). -/
def State.sourceHigh (s : State) (e : OutEntry) : Prop :=
  match e.source with
  | .farAny => s.someMasked e.mask fun m => (s.mic m).talk.talk = .far
  | .nearAny => s.someMasked e.mask fun m => (s.mic m).talk.talk = .near
  | .doubleAny => s.someMasked e.mask fun m => (s.mic m).talk.talk = .double
  | .haltedAny => s.someMasked e.mask fun m => (s.mic m).talk.mode = .halted
  | .mutedAny => s.someMasked e.mask fun m => (s.mic m).out.mute = true ∨ (s.mic m).out.lineMute = true
  | .settledAll =>
    (s.someMasked e.mask fun _ => True) ∧ ¬s.someMasked e.mask fun m => (s.mic m).talk.settled = false
  | .refLost => s.port.lost = true
  | .rollbackPulse => False
  | .fixedLow => False
  | .fixedHigh => True

/-- Every output line carries the value of its source, inverted where its entry says so, with no rollback to show (R168). -/
def State.outLinesShow (s : State) : Prop :=
  ∀ k : OutLineIndex, xor (s.outLines.get k).value (s.outLines.get k).entry.invert = true ↔ s.sourceHigh (s.outLines.get k).entry

/-- The entries of the output lines stand, and every line then carries the value of its source as `t` leaves it: what an
acceptance in PARKED does to them (R168). -/
def State.refreshesLines (s t : State) : Prop :=
  (∀ k, t.outLines.get k = { s.outLines.get k with value := (t.outLines.get k).value }) ∧ t.outLinesShow

/-! ## Adaptation modes -/

/-- The mode of microphone `m` is the one its halt flag and freeze causes give (R54, R56). -/
def State.modeFollows (s : State) (m : MicLane) : Prop :=
  (s.mic m).talk.mode =
    if (s.mic m).talk.halt then .halted
    else if (s.mic m).talk.freeze || (s.mic m).talk.levelHold || decide (0 < (s.mic m).holdSpan) then .frozen
    else .live

/-- Between `s` and `t` the mode of every configured microphone is derived from the causes that `t` holds, and the mode of an
unconfigured lane stands (R56). -/
def State.derivesModes (s t : State) : Prop :=
  ∀ m : MicLane, (m.val < s.layout.mics → t.modeFollows m) ∧
    (s.layout.mics ≤ m.val → (t.mic m).talk.mode = (s.mic m).talk.mode)

/-- Between `s` and `t` nothing of the microphones moves but the modes, which follow their causes (R56). -/
def State.movesModesAlone (s t : State) : Prop :=
  s.derivesModes t ∧ ∀ m, t.mic m = { s.mic m with talk := { (s.mic m).talk with mode := (t.mic m).talk.mode } }

/-! ## The checkpoint rings -/

/-- Of the microphones nothing changes but slot `k` of microphone `m`. -/
def State.changesSlot (s : State) (m : MicLane) (k : SlotIndex) (t : State) : Prop :=
  (∀ m', t.mic m' = { s.mic m' with ring := { (s.mic m').ring with slots := (t.mic m').ring.slots } }) ∧
    ∀ m' k', ¬(m' = m ∧ k' = k) → t.slot m' k' = s.slot m' k'

/-- The bytes are the ring summary of microphone `m` as the state shows it, 58 of them (R124): lane, top pointer, push interval
count, pending push and pending recall, then 13 bytes for each slot. A FILLING slot has no record yet: its rollback count,
sequence and frame number are open (assumption 6), and its segments are those reserved. -/
def State.showsRing (s : State) (m : MicLane) (bytes : List Byte) : Prop :=
  let ring := (s.mic m).ring
  bytes.length = 58 ∧ ∃ (rollbacks : SlotIndex → Byte) (sequence frame : SlotIndex → Nat),
    bytes = byteOf m.val :: byteOf ring.top.val :: (le2 ring.interval ++
      ((if ring.pushPending then 1#8 else 0#8) :: (match ring.recallPending with
          | some k => byteOf k.val
          | none => 255#8) ::
        allSlots.flatMap fun k =>
          let x := s.slot m k
          byteOf x.tag.code :: byteOf ((if x.exporting then 1 else 0) + (if x.command = none then 0 else 2)) ::
            match x.tag, x.record with
            | .filling, _ => rollbacks k :: (le4 (sequence k) ++ (le2 (s.slotSegments m k) ++ le4 (frame k)))
            | .empty, _ => List.replicate 11 0#8
            | _, none => List.replicate 11 0#8
            | _, some rec => byteOf rec.rollbacks :: (le4 rec.sequence.toNat ++
                (le2 (entriesSegments rec.entries) ++ le4 rec.frame.toNat))))

/-! ## Segments between two states -/

/-- Every segment but those of `moved` keeps coefficients, energy and owner. -/
def State.keepsSegments (s : State) (moved : List SegIndex) (t : State) : Prop :=
  ∀ i, i ∉ moved → t.segment i = s.segment i

/-- The segments of `gone` that are not among `placed` are FREE with energy 0, their coefficients left as they were (R64). -/
def State.freesSegments (s : State) (gone placed : List SegIndex) (t : State) : Prop :=
  ∀ i ∈ gone, i ∉ placed → t.segment i = { s.segment i with owner := .free, energy := 0 }

/-! ## Chains -/

/-- Every segment of a microphone's chains names its path and position and enters with energy 0 (R37, R60, R63). -/
def State.chainsPlaced (s : State) (m : MicLane) : Prop :=
  ∀ r p i, (s.path m r).chain[p]? = some i → (s.segment i).owner = .active m r p ∧ (s.segment i).energy = 0

/-- No segment stands at two chain positions (R60, R67). -/
def State.chainsApart (s : State) : Prop :=
  ∀ (m : MicLane) (r : RefLane) (p : Nat) (m' : MicLane) (r' : RefLane) (p' : Nat) (i : SegIndex),
    (s.path m r).chain[p]? = some i → (s.path m' r').chain[p']? = some i →
    m = m' ∧ r = r' ∧ p = p'

/-! ## The Segment Pool -/

/-- Every place a segment can stand in, listed: the free list, the chains, and the path entries of the slots (R60). -/
def State.places (s : State) : List SegIndex :=
  s.freeList ++ allPaths.flatMap (fun p => (s.path p.1 p.2).chain) ++
    allMics.flatMap fun m => allSlots.flatMap fun k => (s.slotEntries m k).flatMap PathEntry.chain

/-- Path entries of distinct reference lanes, each with at most 80 segments and a lead delay of at most 2047 (R67, R105,
R126). -/
def entriesSound (es : List PathEntry) : Prop :=
  (es.map PathEntry.r).Nodup ∧ ∀ e ∈ es, e.chain.length ≤ 80 ∧ e.lead ≤ 2047

/-- Chains within their limits: at most 80 segments and a lead delay of at most 2047, now and once pending limits are
taken, and nothing on a path that is not enabled (R67, R71, R74). -/
def State.chainsSound (s : State) : Prop :=
  ∀ m r,
    ((s.path m r).chain.length ≤ 80 ∧ (s.path m r).lead ≤ 2047 ∧ (s.path m r).maxSegs ≤ 80) ∧
    (∀ x, (s.path m r).limits = some x → x.maxSegs ≤ 80 ∧ ∀ d, x.lead = some d → d ≤ 2047) ∧
    (s.enabled m r = false → (s.path m r).chain = [] ∧ (s.path m r).lead = 0 ∧ (s.path m r).limits = none)

/-- Slots that agree with their tags: a VALID or HELD slot has a record and no other has, and a FILLING slot is the one an
open import fills (R104, R105, R132). -/
def State.slotsSound (s : State) : Prop :=
  (∀ m k, ((s.slot m k).record.isSome = true ↔ (s.slot m k).tag = .valid ∨ (s.slot m k).tag = .held) ∧
    (∀ rec, (s.slot m k).record = some rec → entriesSound rec.entries) ∧
    ((s.slot m k).tag = .filling ↔ ∃ x, s.session = some x ∧ x.kind = .importing ∧ x.m = m ∧ x.slot = k)) ∧
  ∀ x, s.session = some x → x.kind = .importing → entriesSound x.entries

/-- A growth queue of at most 64 requests, at most one for each path and only for enabled ones, and empty while PARKED,
when no frame end is due either (R4, R93, R151). -/
def State.queueSound (s : State) : Prop :=
  s.queue.length ≤ 64 ∧ (s.queue.map fun q => (q.m, q.r)).Nodup ∧ (∀ q ∈ s.queue, s.enabled q.m q.r = true) ∧
    (s.engine = .parked → s.queue = [] ∧ s.phase = .sampling)

/-- Every segment's owner names the place it stands in: the free list, a position of a chain, or a position of a slot's path
entry; and a FREE or CHECKPOINT segment has energy 0 (R60, R67). Where the pool is whole besides, every segment stands in one
such place, so that these are the owners of all. -/
def State.ownersSound (s : State) : Prop :=
  (∀ i ∈ s.freeList, (s.segment i).owner = .free ∧ (s.segment i).energy = 0) ∧
    (∀ m r p i, (s.path m r).chain[p]? = some i → (s.segment i).owner = .active m r p) ∧
      ∀ m k, ∀ e ∈ s.slotEntries m k, ∀ p i, e.chain[p]? = some i →
        (s.segment i).owner = .checkpoint m k e.r p ∧ (s.segment i).energy = 0

/-- The Segment Pool is whole: no segment stands in two places, the three counts add up to 3072, so that each stands in
one (R60 to R62), the ACTIVE count is at most 2048 (R66), chains, slots and growth queue are sound, and every segment's owner
names its place (R60, R67). -/
structure State.poolSound (s : State) : Prop where
  /-- No segment stands in two places. -/
  apart : s.places.Nodup
  /-- FREE, ACTIVE and CHECKPOINT segments add up to 3072. -/
  whole : s.freeCount + s.activeCount + s.checkpointCount = 3072
  /-- At most 2048 segments are ACTIVE. -/
  capacity : s.activeCount ≤ 2048
  /-- Chains and lead delays within their limits. -/
  chains : s.chainsSound
  /-- Slots and session agree. -/
  slots : s.slotsSound
  /-- The growth queue is sound. -/
  queue : s.queueSound
  /-- Owners agree with chains, slots and free list. -/
  owners : s.ownersSound

/-! ## A frame end, piece by piece -/

/-- An open frame end at its next free choice, its work reading the outlook `o` (R4; assumptions 3 and 21). -/
def State.choosing (o : Outlook) (s : State) : State :=
  { (s.withOutlook o).modWork fun w => { w with nextChoice := w.nextChoice + 1 } with drawn := s.drawn + 1 }

/-- From `s` the frame end takes the pieces of `order` one after another, each still to be taken and held back by nothing
when it is taken, and leaves `t`; each piece reads some outlook of the modes for the next frame (assumption 21). -/
def State.takesInOrder : List Task → State → State → Prop
  | [], s, t => ∃ o, t = s.withOutlook o
  | x :: order, s, t =>
    (∃ w, s.phase = .taking w ∧ x ∈ w.todo ∧ w.ready x = true) ∧
      ∃ o, State.takesInOrder order ((s.choosing o).takeTask x) t

/-! ## A safe step -/

/-- A step that ends in a next state. -/
def completes (o : Host.Outcome State Fault Refusal) : Prop := ∃ t, o = .next t

end Sys2Proof.Machine
end

