-- ==== Sys2Proof/WellFormed.lean ====
section
/-! DEFINITION. Which commands are well formed: those a sender can give (R170, R172 and Table 11-3). -/

namespace Sys2Proof

/-- A request is well formed when Table 11-3 allows its payload length. A transaction stands for itself only where
its first byte is neither direction byte, and an UNKNOWN_KIND frame has a KIND outside Table 11-3 and at most 1024
payload bytes. Every other command has its operands' widths fixed by its type. -/
def Instr.wellFormed : Instr → Bool
  | .powerOn => true
  | .resetn => true
  | .captureSample _ _ => true
  | .frameEnd => true
  | .referenceArrival _ => true
  | .refLost => true
  | .evaluationFrameEnd => true
  | .grant => true
  | .requestTimeout => true
  | .sessionTimeout => true
  | .commitApplication => true
  | .holdSpanEnd _ => true
  | .divergenceEvent _ => true
  | .restartCompletion => true
  | .inboundFrameDiscarded _ => true
  | .unknownKind kind _ payload => !knownKind kind && decide (payload.length ≤ Config.maxPayload)
  | .read _ => true
  | .ignoredTransaction sent => sent.head? != some 0x3C#8 && sent.head? != some 0xC3#8
  | .ident _ => true
  | .restart _ => true
  | .engineRun _ => true
  | .enginePark _ => true
  | .layoutSet _ _ _ _ _ => true
  | .layoutGet _ => true
  | .paramSet _ _ _ => true
  | .paramGet _ _ => true
  | .paramCommit _ _ => true
  | .trim _ _ => true
  | .pathLimits _ _ _ _ _ _ _ => true
  | .micFreeze _ _ => true
  | .micThaw _ _ => true
  | .micMute _ _ _ => true
  | .micOutput _ _ _ => true
  | .micReset _ _ => true
  | .ckptPush _ _ => true
  | .ckptHold _ _ _ => true
  | .ckptRelease _ _ _ => true
  | .ckptDiscard _ _ _ => true
  | .ckptRecall _ _ _ => true
  | .imageExport _ _ _ => true
  | .imageRead _ => true
  | .imageImport _ _ _ header => decide (9 ≤ header.length) && decide (header.length ≤ 21)
  | .imageWrite _ _ data => data.length == 192 || data.length == 384 || data.length == 576 || data.length == 768
  | .imageClose _ => true
  | .queryMic _ _ => true
  | .queryPool _ _ => true
  | .queryPath _ _ _ => true
  | .faultRead _ => true
  | .faultClear _ _ _ => true
  | .faultSet _ _ _ _ => true
  | .notifySet _ _ => true
  | .lineSet _ _ _ _ _ _ _ => true
  | .linePulse _ _ => true
  | .lineGet _ => true

end Sys2Proof
end

