-- ==== Sys2Proof/Certificates/Slice0/Obligations.lean ====
section
/-! DEFINITION. The statements for the provers, from the numbered rules of the manual. -/

open Sys2Proof Sys2Proof.Machine

/-! ## The machine -/

/-- A step takes the command at the front of the queue and is that command's effect on the rest (the queue is the
model's, assumption 1). -/
def Obligations.StepRunsFrontCommand : Prop :=
  ∀ (s : State) (c : Instr) (rest : List Instr), s.pending = c :: rest → step s = exec c { s with pending := rest }

/-- Every command ends in a next state, never in a fault or a refusal, and leaves the commands still waiting as they
were: they are outside the part (assumption 1). -/
def Obligations.EveryCommandCompletesAndKeepsTheQueue : Prop :=
  ∀ (c : Instr) (s : State), ∃ t, exec c s = .next t ∧ t.pending = s.pending

/-! ## Resets of the part (R73, R149, R160, R161) -/

/-- After reset path p holds segments 16p to 16p + 15 in position order, every lead delay is 0, every coefficient 0,
and the free list holds 1024 to 3071 (R73; the coefficients of the FREE segments are the model's choice,
assumption 38). The engine is PARKED, the layout and the two sets are the defaults, and nothing is staged (R149,
Table 9-1). The session record is of kind NONE with every other field 0 or empty (R126; that its fields read so while
no session is open is assumption 9). -/
def Obligations.ResetHoldsTheDefaults : Prop :=
  ((∀ (m : MicLane) (r : RefLane),
       (State.reset.path m r).chain.map Fin.val = List.range' (16 * (4 * m.val + r.val)) 16 ∧
         (State.reset.path m r).lead = 0) ∧
       State.reset.freeList.map Fin.val = List.range' 1024 2048 ∧
         ∀ (i : SegIndex) (j : Fin 64), (State.reset.segment i).coefs.get j = 0) ∧
  (State.reset.engine = .parked ∧
       State.reset.layout.mics = 16 ∧ State.reset.layout.refs = 4 ∧ State.reset.layout.initialSegs = 16 ∧
         (∀ m r, State.reset.enabled m r = true) ∧
           (List.range 20).map State.reset.active.value =
             [128, 160, 65536, 8, 32, 12, 4, 12, 16, 625, 6, 25, 10, 10, 6, 6, 1, 0xB400, 0, 128] ∧
             State.reset.shadow = State.reset.active ∧ State.reset.staged = none ∧
               ∀ m, (State.reset.mic m).resetPending = false) ∧
  State.reset.imageRecord =
    { kind := none, m := 0, slot := 0, entries := [], total := 0, chunks := 0, cursor := 0, idle := 0 }

/-- POWER_ON, RESETN and the completion of RESTART leave the power-on state; the commands still waiting outside the
part and the model's own count of free values stand (R161). -/
def Obligations.ResetsBringThePowerOnState : Prop :=
  ∀ s : State,
      exec .powerOn s = .next { State.reset with pending := s.pending, drawn := s.drawn } ∧
      exec .resetn s = .next { State.reset with pending := s.pending, drawn := s.drawn } ∧
      (∀ f, s.link.reply = some f → f.kind = 0x82#8 →
        exec .restartCompletion s = .next { State.reset with pending := s.pending, drawn := s.drawn })

/-- RESTART's reply is placed and the part goes on as before; the READ that carries the whole reply brings every
register of the part to its power-on value; a READ that ends earlier changes nothing but what SPI_SDO carried
(R160). The reply is sent with READY set and MORE clear whatever reports are queued, since the state that its removal
leaves has an empty queue (R160, R173, R183). -/
def Obligations.RestartTakesEffectWithItsReply : Prop :=
  (∀ (tag : Byte) (s : State), s.accepting →
       ∃ t, exec (.restart tag) s = .next t ∧ t = { s with link := t.link } ∧ s.repliedTo ⟨0x02#8, tag, []⟩ [0#8] t) ∧
  (∀ (s : State) (f : Frame) (n : Nat), s.link.reply = some f → f.kind = 0x82#8 →
       let sent := encodeFrame (outboundFlags true false s.link.dropped) f
       (8 + f.payload.length ≤ n →
         ∃ t, exec (.read n) s = .next t ∧
           t = { State.reset with
             pending := s.pending, drawn := s.drawn
             link := { Link.powerOn with sdo := sent ++ List.replicate (n - (8 + f.payload.length)) 0#8 } }) ∧
       (n < 8 + f.payload.length →
         exec (.read n) s = .next { s with link := { s.link with sdo := sent.take n } }))

/-! ## The control link (R170 to R178) -/

/-- Decoding what is encoded: every well-formed request, sent as a frame, passes the checks of R172 and is read back
as itself, with every operand at every value. -/
def Obligations.RequestsReadBackAsSent : Prop :=
  ∀ (i : Instr) (bytes : List Byte), i.wellFormed = true → encodeRequest i = some bytes → classify bytes = .request i

/-- A well-formed request that finds the request slot empty is answered in the same step: both slots fill, the reply
has the request's KIND plus 0x80, its TAG and a payload that begins with a status byte (R172 to R174). A frame
that finds the request slot full is discarded, DROPPED is set, and nothing else of the part changes (R172, check
1). -/
def Obligations.RequestsFillBothSlots : Prop :=
  (∀ (i : Instr) (f : Frame) (s : State), i.wellFormed = true → requestFrame? i = some f → s.accepting →
       ∃ (t : State) (st : Status) (rest : List Byte), exec i s = .next t ∧ t.link.request = some f ∧
         t.link.reply = some ⟨f.kind + 0x80#8, f.tag, st.byte :: rest⟩) ∧
  (∀ (i : Instr) (f g : Frame) (s : State), requestFrame? i = some f → s.link.request = some g →
       exec i s = .next
         { s with link := { s.link with dropped := true, sdo := List.replicate (8 + f.payload.length) 0#8 } })

/-- A request of a length Table 11-3 does not allow, and a frame that fails the format or the CRC check, is discarded
with one device-scoped fault of its kind and no reply; the detail bytes become the first-fault record when the
kind is unmasked and the record empty (R172, R179). A frame that finds the request slot full fails check 1 whatever
it holds: DROPPED is set and nothing else of the part changes (R172). -/
def Obligations.DiscardedFramesRaiseTheirFault : Prop :=
  (∀ (i : Instr) (f : Frame) (s : State), requestFrame? i = some f → lengthAllowed f.kind f.payload.length = false →
       s.accepting →
         ∃ t, exec i s = .next t ∧ t.link.request = none ∧ t.link.reply = s.link.reply ∧
           (t.faultEntry .linkFormat).seen = true ∧
             (t.faultEntry .linkFormat).count = min 65535 ((s.faultEntry .linkFormat).count + 1) ∧
               t = { s with link := t.link } ∧
                 ((s.faultEntry .linkFormat).masked = false → s.link.first = none →
                   t.link.first = some ⟨.linkFormat, 255, s.frameCounter, ⟨0x7E#8, f.kind, f.tag, 0#8⟩⟩)) ∧
  (∀ (bytes : List Byte) (s : State), s.accepting →
       (∀ a b c d, classify bytes = .badFormat a b c d →
         ∃ t, exec (.inboundFrameDiscarded bytes) s = .next t ∧ t = { s with link := t.link } ∧
           t.link.request = none ∧ t.link.reply = s.link.reply ∧ (t.faultEntry .linkFormat).seen = true ∧
             (t.faultEntry .linkFormat).count = min 65535 ((s.faultEntry .linkFormat).count + 1) ∧
               ((s.faultEntry .linkFormat).masked = false → s.link.first = none →
                 t.link.first = some ⟨.linkFormat, 255, s.frameCounter, ⟨a, b, c, d⟩⟩)) ∧
       (∀ x y, classify bytes = .badCrc x y →
         ∃ t, exec (.inboundFrameDiscarded bytes) s = .next t ∧ t = { s with link := t.link } ∧
           t.link.request = none ∧ t.link.reply = s.link.reply ∧ (t.faultEntry .linkCrc).seen = true ∧
             (t.faultEntry .linkCrc).count = min 65535 ((s.faultEntry .linkCrc).count + 1) ∧
               ((s.faultEntry .linkCrc).masked = false → s.link.first = none →
                 ∃ d, t.link.first = some ⟨.linkCrc, 255, s.frameCounter, d⟩ ∧ d.bytes = be2 x ++ be2 y))) ∧
  (∀ (bytes : List Byte) (f : Frame) (s : State), s.link.request = some f →
       exec (.inboundFrameDiscarded bytes) s = .next
         { s with link := { s.link with dropped := true, sdo := List.replicate bytes.length 0#8 } })

/-- A well-formed frame whose KIND is no request's is accepted and answered UNKNOWN_KIND with no further payload
(R172, check 4); where it finds the request slot full it is discarded and DROPPED is set (R172, check 1). The reply's
KIND is the frame's plus 0x80 (R174); that the sum is taken modulo 256 for a KIND of 0x80 or above is the model's
choice (assumption 52). An ignored transaction carries 0x00 on SPI_SDO and takes and sends nothing (R170). -/
def Obligations.UnknownAndIgnoredTransactions : Prop :=
  (∀ (kind tag : Byte) (payload : List Byte) (s : State), knownKind kind = false → payload.length ≤ 1024 →
       s.accepting →
         ∃ t, exec (.unknownKind kind tag payload) s = .next t ∧ t = { s with link := t.link } ∧
           s.repliedTo ⟨kind, tag, payload⟩ [5#8] t) ∧
  (∀ (kind tag : Byte) (payload : List Byte) (f : Frame) (s : State), s.link.request = some f →
       exec (.unknownKind kind tag payload) s = .next
         { s with link := { s.link with dropped := true, sdo := List.replicate (8 + payload.length) 0#8 } }) ∧
  (∀ (sent : List Byte) (s : State), (Instr.ignoredTransaction sent).wellFormed = true →
       exec (.ignoredTransaction sent) s =
         .next { s with link := { s.link with sdo := List.replicate (sent.length - 1) 0#8 } })

/-- A READ whose last CRC byte is clocked out sends the reply and empties both slots, or sends the head report and
removes it, or sends IDLE; it sends the frame's bytes and then zeros, and the DROPPED flag is cleared (R170,
R173). A READ cut short leaves the frame where it was (R170). That MORE tells of the queue the removal leaves, and not
of a PENDING report the removal then queues, is the model's choice (assumption 18). -/
def Obligations.ReadsSendAndRemoveOneFrame : Prop :=
  (∀ (n : Nat) (s : State), s.link.restarting = false → s.link.outboundBytes.length ≤ n →
       ∃ t, exec (.read n) s = .next t ∧ t = { s with link := t.link } ∧
         t.link.sdo = s.link.outboundBytes ++ List.replicate (n - s.link.outboundBytes.length) 0#8 ∧
         t.link.dropped = false ∧
         (∀ f, s.link.reply = some f →
           s.link.outboundBytes = encodeFrame (outboundFlags true (!s.link.reports.isEmpty) s.link.dropped) f ∧
             t.link.reply = none ∧ t.link.request = none ∧ t.link.reports = s.link.reports ∧
               t.link.flags = s.link.flags) ∧
         (∀ f rest, s.link.reply = none → s.link.reports = f :: rest →
           s.link.outboundBytes =
             encodeFrame (outboundFlags s.link.request.isNone (!rest.isEmpty) s.link.dropped) f ∧
             (s.link.flags &&& ~~~s.link.masks = 0#16 → t.link.reports = rest ∧ t.link.flags = s.link.flags) ∧
             (s.link.flags &&& ~~~s.link.masks ≠ 0#16 → rest.length < 32 →
               t.link.reports = rest ++
                 [⟨0x7F#8, 0#8, le2 (s.link.flags &&& ~~~s.link.masks).toNat ++ le4 s.frameCounter.toNat⟩] ∧
               t.link.flags = s.link.flags &&& s.link.masks)) ∧
         (s.link.reply = none → s.link.reports = [] →
           s.link.outboundBytes = encodeFrame (outboundFlags s.link.request.isNone false s.link.dropped) ⟨0#8, 0#8, []⟩ ∧
             t.link.reports = [])) ∧
  (∀ (n : Nat) (s : State), n < s.link.outboundBytes.length →
       exec (.read n) s = .next { s with link := { s.link with sdo := s.link.outboundBytes.take n } })

/-- What becomes of a report that reaches the Link Controller: masked, dropped for want of room, or queued (R176). -/
def Obligations.ReportsReachTheQueue : Prop :=
  ∀ (c : ReportClass) (payload : List Byte) (l : Link),
      (l.masks.getLsbD c.code = true ∨ 32 ≤ l.reports.length →
        (l.report c payload).reports = l.reports ∧ (l.report c payload).flags.getLsbD c.code = true ∧
          ∀ k, k ≠ c.code → (l.report c payload).flags.getLsbD k = l.flags.getLsbD k) ∧
      (l.masks.getLsbD c.code = false → l.reports.length < 32 →
        l.report c payload = { l with reports := l.reports ++ [⟨byteOf (0x70 + c.code), 0#8, payload⟩] })

/-- ATTN is high while the reply slot is full or the report queue holds at least one report, and low otherwise; it is
low after power-on, RESETN and RESTART (R177). -/
def Obligations.AttnFollowsSlotAndQueue : Prop :=
  (∀ s : State, s.attn = true ↔ s.link.reply ≠ none ∨ s.link.reports ≠ []) ∧
      (∀ s t : State, exec .powerOn s = .next t ∨ exec .resetn s = .next t → t.attn = false) ∧
    ∀ (s t : State) (f : Frame) (n : Nat), s.link.reply = some f → f.kind = 0x82#8 →
      exec .restartCompletion s = .next t ∨ 8 + f.payload.length ≤ n ∧ exec (.read n) s = .next t → t.attn = false

/-- The raising of a fault (R179): its entry counts it always; unmasked it fills an empty first-fault record, and a
HALTING kind halts the microphone it names. An unmasked fault raises a FAULT report with the kind, the lane (255 for
device scope), the count, the detail bytes, whether it halted its microphone and the frame counter (R179); that it
says so of a HALTING fault on a microphone already halted too is assumption 55. At a frame end each saturation mark of
a microphone sets its sticky flag, masked or not, raises one fault with the mark's position, lane and tally as detail
bytes, and is cleared; a mark not set leaves its flag and its entry as they are (R38, R39). A trim rescale that clamps
sets the sticky flag, which is assumption 32's reading of R17, and notes the clamps in the COEF_SAT mark while
RUNNING, or raises the fault at once in PARKED (R17, R38). The restored-flag faults set before are raised once each,
with the detail bytes 254, 254, 0 and 0, and cleared (R119); that they are raised in the order of their codes is the
model's choice (assumption 16). -/
def Obligations.FaultsAreCountedAndRecorded : Prop :=
  (∀ (k : FaultKind) (m : MicLane) (d : Detail) (s : State),
      ((s.fault k (some m) d).faultEntry k).seen = true ∧
      ((s.fault k (some m) d).faultEntry k).count = min 65535 ((s.faultEntry k).count + 1) ∧
      (k.code.val ≤ 5 → ((s.fault k (some m) d).faultEntry k).mics.getLsbD m.val = true) ∧
      ((s.faultEntry k).masked = true →
        (s.fault k (some m) d).link.first = s.link.first ∧ (s.fault k (some m) d).link.reports = s.link.reports ∧
          (s.fault k (some m) d).mics = s.mics) ∧
      ((s.faultEntry k).masked = false → s.link.first = none →
        (s.fault k (some m) d).link.first = some ⟨k, m.val, s.frameCounter, d⟩) ∧
      ((s.faultEntry k).masked = false → (s.faultEntry k).severity = .halting → k.code.val ≤ 5 →
        ((s.fault k (some m) d).mic m).talk.halt = true ∧
          ((s.fault k (some m) d).mic m).haltKinds.getLsbD k.code.val = true) ∧
      ((s.faultEntry k).severity = .advisory → (s.fault k (some m) d).mics = s.mics)) ∧
  (∀ (k : FaultKind) (lane : Option MicLane) (d : Detail) (s : State),
      let t := s.fault k lane d
      let l : Link := { s.link with faults := t.link.faults, first := t.link.first }
      let halted := ∃ m, lane = some m ∧ k.code.val ≤ 5 ∧ (s.faultEntry k).severity = .halting
      ((s.faultEntry k).masked = true → t.link = l) ∧
      ((s.faultEntry k).masked = false → ∃ told : Byte, (halted → told = 1#8) ∧ (¬halted → told = 0#8) ∧
        t.link = l.report .fault (byteOf k.code.val ::
          (match lane with
            | some m => byteOf m.val
            | none => 255#8) ::
          (le2 (t.faultEntry k).count ++ [d.b0, d.b1, d.b2, d.b3, told] ++ le4 s.frameCounter.toNat)))) ∧
  (∀ (m : MicLane) (s : State),
      let e := (s.mic m).engine
      let t := s.convertMarks m
      (∀ (k : FaultKind) (x : Mark) (flag : SatFlags → Bool),
        k = .coefSat ∧ x = e.coefMark ∧ flag = SatFlags.coef ∨ k = .estSat ∧ x = e.estMark ∧ flag = SatFlags.est ∨
          k = .errSat ∧ x = e.errMark ∧ flag = SatFlags.err →
        (x.raised = true → flag (t.mic m).engine.sticky = true ∧ (t.faultEntry k).seen = true ∧
          (t.faultEntry k).count = min 65535 ((s.faultEntry k).count + 1) ∧
          (t.faultEntry k).mics.getLsbD m.val = true ∧
          ((s.faultEntry k).masked = false → s.link.first = none →
            (∀ k', k' ≠ k → (s.faultEntry k').masked = true) →
            t.link.first = some ⟨k, m.val, s.frameCounter,
              ⟨byteOf x.position, byteOf x.lane, byteOf x.tally, byteOf (x.tally / 256)⟩⟩)) ∧
        (x.raised = false → flag (t.mic m).engine.sticky = flag e.sticky ∧ t.faultEntry k = s.faultEntry k)) ∧
      (t.mic m).engine.coefMark.raised = false ∧ (t.mic m).engine.estMark.raised = false ∧
      (t.mic m).engine.errMark.raised = false ∧ (t.mic m).engine.coefMark.tally = 0 ∧
      (t.mic m).engine.estMark.tally = 0 ∧ (t.mic m).engine.errMark.tally = 0 ∧
      (∀ m', m' ≠ m → t.mic m' = s.mic m') ∧ t = { s with mics := t.mics, link := t.link, phase := t.phase }) ∧
  (∀ (m : MicLane) (n : Nat) (s : State),
      let e := (s.mic m).engine
      let stuck : EngineRecord := { e with sticky := { e.sticky with coef := true } }
      (n = 0 → s.noteRescale m n = s) ∧
      (n ≠ 0 → s.engine = .running → s.noteRescale m n = s.modEngine m fun _ =>
        { stuck with coefMark := if e.coefMark.raised then { e.coefMark with tally := min 65535 (e.coefMark.tally + n) }
            else ⟨true, min 65535 n, 255, 255⟩ }) ∧
      (n ≠ 0 → s.engine = .parked → s.noteRescale m n = (s.modEngine m fun _ => stuck).fault .coefSat (some m)
        ⟨255#8, 255#8, byteOf (min 65535 n), byteOf (min 65535 n / 256)⟩)) ∧
  (∀ (m : MicLane) (s : State),
      let f := (s.mic m).ring.restored
      let t := s.raiseRestored m
      (∀ (k : FaultKind) (flag : Bool),
        k = .coefSat ∧ flag = f.coef ∨ k = .estSat ∧ flag = f.est ∨ k = .errSat ∧ flag = f.err →
        (flag = true → (t.faultEntry k).seen = true ∧
          (t.faultEntry k).count = min 65535 ((s.faultEntry k).count + 1) ∧
          (t.faultEntry k).mics.getLsbD m.val = true ∧
          ((s.faultEntry k).masked = false → s.link.first = none →
            (∀ k', k' ≠ k → (s.faultEntry k').masked = true) →
            t.link.first = some ⟨k, m.val, s.frameCounter, ⟨254#8, 254#8, 0#8, 0#8⟩⟩)) ∧
        (flag = false → t.faultEntry k = s.faultEntry k)) ∧
      (let raise := fun (set : Bool) (k : FaultKind) (u : State) =>
         if set then u.fault k (some m) ⟨254#8, 254#8, 0#8, 0#8⟩ else u
       t.link = (raise f.err .errSat (raise f.est .estSat (raise f.coef .coefSat s))).link) ∧
      (t.mic m).ring = { (s.mic m).ring with restored := ⟨false, false, false⟩ } ∧
      (t.mic m).engine = (s.mic m).engine ∧ t = { s with mics := t.mics, link := t.link, phase := t.phase })

/-- IDENT (R175): it changes nothing but the link's slots. -/
def Obligations.IdentReturnsTheFixedFields : Prop :=
  ∀ (tag : Byte) (s : State), s.accepting →
      ∃ t, exec (.ident tag) s = .next t ∧ t = { s with link := t.link } ∧
        s.repliedTo ⟨0x01#8, tag, []⟩
          ([0#8, 0xA4#8, 1#8, 0x00#8, 0x0C#8, 0x00#8, 0x08#8, 16#8, 4#8, 4#8, if s.engine = .parked then 0#8 else 1#8] ++
            le4 s.frameCounter.toNat) t

/-- LAYOUT.GET returns the engine state, the layout in the order LAYOUT.SET carries it and the frame counter (R154). -/
def Obligations.LayoutGetReturnsTheLayout : Prop :=
  ∀ (tag : Byte) (s : State), s.accepting →
      ∃ t, exec (.layoutGet tag) s = .next t ∧ t = { s with link := t.link } ∧
        s.repliedTo ⟨0x0B#8, tag, []⟩
          ([0#8, if s.engine = .parked then 0#8 else 1#8, byteOf s.layout.mics, byteOf s.layout.refs] ++
            leBytes 8 s.layout.mask.toNat ++ [byteOf s.layout.initialSegs] ++ le4 s.frameCounter.toNat) t

/-- NOTIFY.SET replaces all ten masks, is refused for a bit above bit 9, and queues one PENDING report where an
unmasked class has its flag set and there is room (R178). -/
def Obligations.NotifySetReplacesTheMasks : Prop :=
  ∀ (tag : Byte) (mask : BitVec 16) (s : State), s.accepting →
      ((∃ k, 10 ≤ k ∧ mask.getLsbD k = true) →
        ∃ t, exec (.notifySet tag mask) s = .next t ∧ t = { s with link := t.link } ∧
          s.repliedTo ⟨0x3B#8, tag, le2 mask.toNat⟩ [3#8] t) ∧
      ((∀ k, 10 ≤ k → mask.getLsbD k = false) →
        ∃ t, exec (.notifySet tag mask) s = .next t ∧ t = { s with link := t.link } ∧ t.link.masks = mask ∧
          t.link.reply = some ⟨0xBB#8, tag, 0#8 :: (le2 mask.toNat ++ le2 t.link.flags.toNat)⟩ ∧
          (s.link.flags &&& ~~~mask = 0#16 ∨ 32 ≤ s.link.reports.length →
            t.link.reports = s.link.reports ∧ t.link.flags = s.link.flags) ∧
          (s.link.flags &&& ~~~mask ≠ 0#16 → s.link.reports.length < 32 →
            t.link.flags = s.link.flags &&& mask ∧
              t.link.reports = s.link.reports ++
                [⟨0x7F#8, 0#8, le2 (s.link.flags &&& ~~~mask).toNat ++ le4 s.frameCounter.toNat⟩]))

/-- FAULT.SET replaces one entry's mask and severity and keeps the rest, and is refused out of range or for a HALTING
device-scoped kind (R180). -/
def Obligations.FaultSetReplacesMaskAndSeverity : Prop :=
  ∀ (tag maskValue severity : Byte) (s : State), s.accepting →
      (∀ k : FaultKind, maskValue.toNat ≤ 1 → (severity = 0#8 ∨ severity = 1#8 ∧ k.code.val ≤ 5) →
        ∃ t, exec (.faultSet tag (byteOf k.code.val) maskValue severity) s = .next t ∧ t = { s with link := t.link } ∧
          t.faultEntry k =
            { s.faultEntry k with
              masked := maskValue == 1#8, severity := if severity = 1#8 then .halting else .advisory } ∧
          (∀ k', k' ≠ k → t.faultEntry k' = s.faultEntry k') ∧ t.link.first = s.link.first ∧
          t.link.reports = s.link.reports ∧
          t.link.reply = some ⟨0xBA#8, tag, 0#8 :: byteOf k.code.val :: (t.faultEntry k).bytes⟩) ∧
      (∀ kind : Byte,
        (10 < kind.toNat ∨ 1 < maskValue.toNat ∨ 1 < severity.toNat ∨ 5 < kind.toNat ∧ severity = 1#8) →
          ∃ t, exec (.faultSet tag kind maskValue severity) s = .next t ∧ t = { s with link := t.link } ∧
            s.repliedTo ⟨0x3A#8, tag, [kind, maskValue, severity]⟩ [3#8] t)

/-- FAULT.READ changes nothing and returns the first-fault record, the eleven entries of Table 11-6, the sixteen halt
flags and the frame counter, 72 bytes after the status; FAULT.CLEAR with a bit above 10 is refused, is added to the
pending clear while RUNNING, and in PARKED clears the table's entries and the microphones' flags at once: of a named
microphone the sticky flags, restored-flag faults and halting kinds of the kinds named, and its halt flag where no
halting kind remains (R181, R182); every output line then shows its source as the clear leaves it (R168; no frame end
stands open in PARKED, as queueSound says and StepsKeepThePoolSound keeps). A pending clear has the same effects when a
frame end takes it, or ENGINE.PARK before it derives the modes, with the kinds it holds for each microphone; what is
exact of a microphone at ENGINE.PARK is said where nothing else pending there could raise a fault (R151, R181). That
the kinds named are clear after ENGINE.PARK whatever resets, trim changes, recalls or pushes of the same acceptance
raise is the model's choice: it takes the clear right before step 7 of R151 (assumption 14). -/
def Obligations.FaultReadAndClear : Prop :=
  (∀ (w : FrameWork) (s : State), s.phase = .taking w →
      let t := s.runTask .faultClear w
      (s.link.clear = none → t = s) ∧
      ∀ c, s.link.clear = some c →
        t = { s with link := t.link, mics := t.mics } ∧
        t.link = { s.link with faults := t.link.faults, first := t.link.first, clear := none } ∧
        (∀ k : FaultKind, t.faultEntry k =
          if c.kinds.getLsbD k.code.val then { s.faultEntry k with seen := false, count := 0, mics := 0#16 }
          else s.faultEntry k) ∧
        (s.link.first = none → t.link.first = none) ∧
        (∀ x, s.link.first = some x → t.link.first = if c.kinds.getLsbD x.kind.code.val then none else some x) ∧
        ∀ m : MicLane,
          let named := c.mics.get m
          let kept := fun (k : Nat) (flag : Bool) => flag && !named.getLsbD k
          let left := (s.mic m).haltKinds &&& ~~~named
          t.mic m = { s.mic m with
            engine := { (s.mic m).engine with
              sticky := ⟨kept 0 (s.mic m).engine.sticky.coef, kept 1 (s.mic m).engine.sticky.est,
                kept 2 (s.mic m).engine.sticky.err⟩ }
            ring := { (s.mic m).ring with
              restored := ⟨kept 0 (s.mic m).ring.restored.coef, kept 1 (s.mic m).ring.restored.est,
                kept 2 (s.mic m).ring.restored.err⟩ }
            haltKinds := left
            talk := { (s.mic m).talk with
              halt := if named ≠ 0#16 ∧ left = 0#16 then false else (s.mic m).talk.halt } }) ∧
  (∀ (tag : Byte) (c : PendingClear) (s : State), s.accepting → s.engine = .running → s.phase = .sampling →
      s.link.clear = some c →
      ∃ t, exec (.enginePark tag) s = .next t ∧ t.link.clear = none ∧
        (∀ k : FaultKind, c.kinds.getLsbD k.code.val = true →
          t.faultEntry k = { s.faultEntry k with seen := false, count := 0, mics := 0#16 }) ∧
        (∀ x, t.link.first = some x → c.kinds.getLsbD x.kind.code.val = false) ∧
        (∀ m : MicLane,
          let named := c.mics.get m
          (named.getLsbD 0 = true → (t.mic m).engine.sticky.coef = false) ∧
          (named.getLsbD 1 = true → (t.mic m).engine.sticky.est = false) ∧
          (named.getLsbD 2 = true → (t.mic m).engine.sticky.err = false) ∧
          (t.mic m).haltKinds &&& named = 0#16 ∧
          (named ≠ 0#16 → (t.mic m).haltKinds = 0#16 → (t.mic m).talk.halt = false) ∧
          (m.val < s.layout.mics → ((t.mic m).talk.mode = .halted ↔ (t.mic m).talk.halt = true))) ∧
        ((∀ m, (s.mic m).resetPending = false ∧ (s.mic m).trim = (s.mic m).trimPending ∧
            (s.mic m).ring.recallPending = none ∧ (s.mic m).ring.pushPending = false) →
          (∀ k : FaultKind, c.kinds.getLsbD k.code.val = false → t.faultEntry k = s.faultEntry k) ∧
          (∀ x, s.link.first = some x → t.link.first = if c.kinds.getLsbD x.kind.code.val then none else some x) ∧
          ∀ m : MicLane,
            let named := c.mics.get m
            let kept := fun (k : Nat) (flag : Bool) => flag && !named.getLsbD k
            let left := (s.mic m).haltKinds &&& ~~~named
            (t.mic m).engine.sticky = ⟨kept 0 (s.mic m).engine.sticky.coef, kept 1 (s.mic m).engine.sticky.est,
              kept 2 (s.mic m).engine.sticky.err⟩ ∧
            (t.mic m).ring.restored = ⟨kept 0 (s.mic m).ring.restored.coef, kept 1 (s.mic m).ring.restored.est,
              kept 2 (s.mic m).ring.restored.err⟩ ∧
            (t.mic m).haltKinds = left ∧
            (t.mic m).talk.halt = if named ≠ 0#16 ∧ left = 0#16 then false else (s.mic m).talk.halt)) ∧
  ∀ (tag : Byte) (s : State), s.accepting →
      (∃ t first, ∃ halts : BitVec 16, exec (.faultRead tag) s = .next t ∧ t = { s with link := t.link } ∧
        first.length = 11 ∧
        (s.link.first = none → ∀ b ∈ first, b = 0#8) ∧
        (∀ x, s.link.first = some x → first =
          1#8 :: byteOf x.kind.code.val :: byteOf x.lane ::
            (le4 x.frame.toNat ++ [x.detail.b0, x.detail.b1, x.detail.b2, x.detail.b3])) ∧
        (∀ m : MicLane, halts.getLsbD m.val = (s.mic m).talk.halt) ∧
        s.repliedTo ⟨0x38#8, tag, []⟩
          (0#8 :: (first ++
            (List.finRange 11).flatMap (fun k =>
              let e := s.link.faults.get k
              byteOf ((if e.seen then 1 else 0) + (if e.masked then 2 else 0) +
                (if e.severity = .halting then 4 else 0)) :: (le2 e.count ++ le2 e.mics.toNat)) ++
            le2 halts.toNat ++ le4 s.frameCounter.toNat)) t) ∧
      (∀ kinds mics : BitVec 16, (∀ k, 11 ≤ k → kinds.getLsbD k = false) → s.engine = .running →
        let named := fun m : MicLane => if mics.getLsbD m.val then kinds &&& 0x3F#16 else 0#16
        ∃ t c, exec (.faultClear tag kinds mics) s = .next t ∧ t = { s with link := t.link } ∧ t.link.clear = some c ∧
          (s.link.clear = none → c.kinds = kinds ∧ ∀ m, c.mics.get m = named m) ∧
          (∀ x, s.link.clear = some x → c.kinds = x.kinds ||| kinds ∧ ∀ m, c.mics.get m = x.mics.get m ||| named m) ∧
            t.link.faults = s.link.faults ∧ t.link.first = s.link.first ∧
              t.link.reply = some ⟨0xB9#8, tag, [0#8, 0#8]⟩) ∧
      (∀ kinds mics : BitVec 16, (∃ k, 11 ≤ k ∧ kinds.getLsbD k = true) →
        ∃ t, exec (.faultClear tag kinds mics) s = .next t ∧ t = { s with link := t.link } ∧
          s.repliedTo ⟨0x39#8, tag, le2 kinds.toNat ++ le2 mics.toNat⟩ [3#8] t) ∧
      (∀ kinds mics : BitVec 16, (∀ k, 11 ≤ k → kinds.getLsbD k = false) → s.engine = .parked →
        ∃ t, exec (.faultClear tag kinds mics) s = .next t ∧
          t = { s with link := t.link, mics := t.mics, outLines := t.outLines } ∧ t.link.clear = none ∧
          (s.phase = .sampling → s.refreshesLines t) ∧ t.link.reply = some ⟨0xB9#8, tag, [0#8, 1#8]⟩ ∧
          (∀ k : FaultKind, kinds.getLsbD k.code.val = true →
            t.faultEntry k = { s.faultEntry k with seen := false, count := 0, mics := 0#16 }) ∧
          (∀ k : FaultKind, kinds.getLsbD k.code.val = false → t.faultEntry k = s.faultEntry k) ∧
          (∀ x, s.link.first = some x → t.link.first = if kinds.getLsbD x.kind.code.val then none else some x) ∧
          ∀ m : MicLane,
            let cleared := fun (k : Nat) (flag : Bool) => flag && !(mics.getLsbD m.val && kinds.getLsbD k)
            let left := (s.mic m).haltKinds &&& ~~~(kinds &&& 0x3F#16)
            (t.mic m).engine.sticky = ⟨cleared 0 (s.mic m).engine.sticky.coef, cleared 1 (s.mic m).engine.sticky.est,
              cleared 2 (s.mic m).engine.sticky.err⟩ ∧
            (t.mic m).ring.restored = ⟨cleared 0 (s.mic m).ring.restored.coef, cleared 1 (s.mic m).ring.restored.est,
              cleared 2 (s.mic m).ring.restored.err⟩ ∧
            (mics.getLsbD m.val = true → (t.mic m).haltKinds = left ∧
              (left ≠ 0#16 → (t.mic m).talk.halt = (s.mic m).talk.halt) ∧
              (left = 0#16 → kinds &&& 0x3F#16 ≠ 0#16 → (t.mic m).talk.halt = false)) ∧
            (mics.getLsbD m.val = false → (t.mic m).haltKinds = (s.mic m).haltKinds ∧
              (t.mic m).talk.halt = (s.mic m).talk.halt))

/-! ## Ports and samples (Chapters 1, 2 and 8) -/

/-- A sample set that arrives: it joins the FIFO; at occupancy 512 the oldest is discarded and an overrun counted;
while lost the loss ends first, with a REFERENCE report BACK that carries the two cumulative counts and the frame
counter (R6, R8, R10), and in PARKED every output line shows its source as the arrival leaves it, while any other
arrival leaves the lines (R168; no frame end stands open in PARKED, as queueSound says and StepsKeepThePoolSound
keeps). To which frame an arrival at the end of a frame belongs is assumption 40's. -/
def Obligations.ArrivalsJoinTheFifo : Prop :=
  ∀ (slots : Vector (BitVec 32) 4) (s : State),
      ∃ t, exec (.referenceArrival slots) s = .next t ∧ t.port.arrived = true ∧ t.port.lost = false ∧
        (s.port.fifo.length < 512 →
          t.port.fifo = s.port.fifo ++ [s.configuredRefs.map fun r => ((slots.get r).extractLsb' 16 16).toInt] ∧
            t.port.overruns = s.port.overruns ∧ t.port.overrunTally = s.port.overrunTally) ∧
        (512 ≤ s.port.fifo.length →
          t.port.fifo =
              s.port.fifo.tail ++ [s.configuredRefs.map fun r => ((slots.get r).extractLsb' 16 16).toInt] ∧
            t.port.overruns = min 65535 (s.port.overruns + 1) ∧
              t.port.overrunTally = min 65535 (s.port.overrunTally + 1)) ∧
        (s.port.lost = true → t.port.silence = 0 ∧ t.link = s.link.report .reference
          (1#8 :: (le2 s.port.underruns ++ le2 s.port.overruns ++ le4 s.frameCounter.toNat))) ∧
        (s.port.lost = false → t.port.silence = s.port.silence ∧ t.link = s.link) ∧
        (s.engine = .running ∨ s.port.lost = false → t.outLines = s.outLines) ∧
        (s.engine = .parked → s.port.lost = true → s.phase = .sampling → s.refreshesLines t) ∧
        t = { s with port := t.port, link := t.link, outLines := t.outLines }

/-- A capture sample consumes one set, or counts an underrun, or reads zeros while lost; each configured lane's
newest history sample is the sample handed over, every older one stands one place further on, and while RUNNING the
lane's sum of squares grows by the square of that sample; an unconfigured lane's record stands (R7, R8, R12, R26). Reading
a history by delay: the newest sample at delay 0, an older one a place further on, and 0 at and beyond the fill
count (R12). At a frame end a slip tally above 0 raises one device-scoped REF_SLIP, its detail bytes the two tallies
with the low byte first, and both tallies return to 0; with both at 0 nothing changes (R8). -/
def Obligations.CaptureConsumesTheReference : Prop :=
  (∀ (w : FrameWork) (s : State), s.phase = .taking w →
      let t := s.runTask .slips w
      (s.port.underrunTally = 0 → s.port.overrunTally = 0 → t = s) ∧
      (0 < s.port.underrunTally ∨ 0 < s.port.overrunTally →
        t = { s with port := { s.port with underrunTally := 0, overrunTally := 0 }, link := t.link } ∧
        (t.faultEntry .refSlip).seen = true ∧
        (t.faultEntry .refSlip).count = min 65535 ((s.faultEntry .refSlip).count + 1) ∧
        t.link = (s.fault .refSlip none ⟨byteOf s.port.underrunTally, byteOf (s.port.underrunTally / 256),
          byteOf s.port.overrunTally, byteOf (s.port.overrunTally / 256)⟩).link)) ∧
  (∀ (slots : Vector (BitVec 32) 16) (pins : BitVec 8) (s : State), s.phase = .sampling →
       ∃ t, exec (.captureSample slots pins) s = .next t ∧ (∀ r, r ∉ s.configuredRefs → t.ref r = s.ref r) ∧
         (let takes := fun (r : RefLane) (x : Int) =>
            t.ref r = { s.ref r with
              ring := (t.ref r).ring, fill := (t.ref r).fill
              sumSquares := (s.ref r).sumSquares + if s.engine = .running then x.natAbs * x.natAbs else 0 } ∧
            (t.ref r).ring.get 0 = x ∧
            ∀ k j : Fin 8192, j.val = k.val + 1 → (t.ref r).ring.get j = (s.ref r).ring.get k
         (s.port.lost = true →
           t.port = s.port ∧ ∀ r ∈ s.configuredRefs, (t.ref r).fill = 0 ∧ takes r 0) ∧
         (s.port.lost = false → s.port.fifo = [] →
           t.port = { s.port with
             underrunTally := min 65535 (s.port.underrunTally + 1), underruns := min 65535 (s.port.underruns + 1) } ∧
             ∀ r ∈ s.configuredRefs, (t.ref r).fill = min 8192 ((s.ref r).fill + 1) ∧ takes r 0) ∧
         (∀ set rest, s.port.lost = false → s.port.fifo = set :: rest →
           t.port = { s.port with fifo := rest } ∧
             ∀ r ∈ s.configuredRefs,
               (t.ref r).fill = min 8192 ((s.ref r).fill + 1) ∧ takes r (set.getD r.val 0)))) ∧
  (∀ (h : RefRecord) (running : Bool) (x : Int) (k : Nat),
       (h.consume false running x).tap 0 = x ∧
       (k < 8191 → (h.consume false running x).tap (k + 1) = h.tap k) ∧
       (h.consume true running x).tap k = 0 ∧
       (h.fill ≤ k → h.tap k = 0))

/-- A capture sample while PARKED: the slots of the period carry the samples formed before in their upper 16 bits, the
lower 16 bits 0, each configured lane forms d or 0 when muted, unconfigured lanes form 0, and no other state but the
reference port, the histories and the lines moves (R5, R14, R23, R147). -/
def Obligations.ParkedSamplesPassThrough : Prop :=
  ∀ (slots : Vector (BitVec 32) 16) (pins : BitVec 8) (s : State), s.phase = .sampling → s.engine = .parked →
      ∃ t, exec (.captureSample slots pins) s = .next t ∧ t.outNow = s.outNext ∧
        (∀ m : MicLane, (t.outputSlot m).extractLsb' 0 16 = 0#16 ∧
          (t.outputSlot m).extractLsb' 16 16 = BitVec.ofInt 16 (s.outNext.get m)) ∧
        (∀ m : MicLane, s.layout.mics ≤ m.val → t.outNext.get m = 0) ∧
        (∀ m : MicLane, m.val < s.layout.mics → (s.mic m).out.mute = true ∨ (s.mic m).out.lineMute = true →
          t.outNext.get m = 0) ∧
        (∀ m : MicLane, m.val < s.layout.mics → (s.mic m).out.mute = false → (s.mic m).out.lineMute = false →
          t.outNext.get m =
            max (-32768) (min 32767 (roundQuotient s.active.rounding
              (((slots.get m).extractLsb' 16 16).toInt * trimGain (s.mic m).trim) 16384))) ∧
        t = { s with outNow := t.outNow, outNext := t.outNext, port := t.port, refs := t.refs, inLines := t.inLines }

/-- A capture sample while RUNNING: the slots of the period carry the samples formed before in their upper 16 bits,
the lower 16 bits 0 (R5); and estimate, error, output sample and sums of squares of each configured microphone (R14,
R21, R22, R35, R142 to R144, R147), with every gate closed, when the pool stands, and with gates open where no segment
stands in two chains, when each microphone's estimate reads its chains as the sample before left them (R3, R60). The
accumulation an estimate rounds is the sum, over the microphone's enabled paths and each of their coefficients, of the
coefficient at position p, place j, times the reference sample at delay D + 64p + j (R20, R21, R67). An estimate or an
error that its clamp changes is noted in the microphone's EST_SAT or ERR_SAT mark: the first of the frame sets the
mark with its sample position, and each is tallied (R21, R22, R38). -/
def Obligations.RunningSamplesCancelTheEcho : Prop :=
  (∀ (m : MicLane) (s : State), s.accumulate m =
    ∑ r : RefLane, if s.enabled m r = true then
      ∑ p : Fin (s.path m r).chain.length, ∑ j : Fin 64,
        (s.segment ((s.path m r).chain.get p)).coefs.get j *
          (s.ref r).tap ((s.path m r).lead + 64 * p.val + j.val)
      else 0) ∧
  ∀ (slots : Vector (BitVec 32) 16) (pins : BitVec 8) (s : State), s.phase = .sampling → s.engine = .running →
      (∀ m r, (s.path m r).gate = false) ∨ s.chainsApart →
      ∃ t, exec (.captureSample slots pins) s = .next t ∧ t.outNow = s.outNext ∧ t.paths = s.paths ∧
        (∀ m : MicLane, (t.outputSlot m).extractLsb' 0 16 = 0#16 ∧
          (t.outputSlot m).extractLsb' 16 16 = BitVec.ofInt 16 (s.outNext.get m)) ∧
        ((∀ m r, (s.path m r).gate = false) → t.pool = s.pool) ∧
        t = { s with
          outNow := t.outNow, outNext := t.outNext, port := t.port, refs := t.refs, mics := t.mics, pool := t.pool,
          inLines := t.inLines, position := t.position, phase := t.phase } ∧
        (∀ m, (t.mic m).talk = (s.mic m).talk ∧ (t.mic m).ring = (s.mic m).ring ∧ (t.mic m).trim = (s.mic m).trim ∧
          (t.mic m).engine.sticky = (s.mic m).engine.sticky ∧ (t.mic m).out.gain = (s.mic m).out.gain ∧
          (t.mic m).out.floor = (s.mic m).out.floor ∧ (s.layout.mics ≤ m.val → t.mic m = s.mic m)) ∧
        ∀ m : MicLane,
          (s.layout.mics ≤ m.val → t.outNext.get m = 0) ∧
          (m.val < s.layout.mics →
            ∃ d q y e cn : Int,
              d = max (-32768) (min 32767 (roundQuotient s.active.rounding
                (((slots.get m).extractLsb' 16 16).toInt * trimGain (s.mic m).trim) 16384)) ∧
              q = roundQuotient s.active.rounding ({ s with refs := t.refs }.accumulate m) (2 ^ 23) ∧
              y = max (-32768) (min 32767 q) ∧
              e = max (-32768) (min 32767 (d - y)) ∧
              cn = max (-32768) (min 32767 (roundQuotient s.active.rounding
                ((s.mic m).out.generator.toInt * (s.mic m).out.amplitude * 887) (2 ^ 24))) ∧
              ((s.mic m).out.mute = true ∨ (s.mic m).out.lineMute = true → t.outNext.get m = 0) ∧
              ((s.mic m).out.mute = false → (s.mic m).out.lineMute = false →
                ((s.mic m).out.source = .direct → t.outNext.get m = d) ∧
                ((s.mic m).out.source = .residual → t.outNext.get m = e) ∧
                ((s.mic m).out.source = .processed → s.active.noiseFill = true →
                  t.outNext.get m = max (-32768) (min 32767 (roundQuotient s.active.rounding
                    (e * (s.mic m).out.gain + cn * (32767 - (s.mic m).out.gain)) 32768))) ∧
                ((s.mic m).out.source = .processed → s.active.noiseFill = false →
                  t.outNext.get m = max (-32768) (min 32767 (roundQuotient s.active.rounding
                    (e * (s.mic m).out.gain) 32768)))) ∧
              (t.mic m).engine.sumD = (s.mic m).engine.sumD + d.natAbs * d.natAbs ∧
              (t.mic m).engine.sumY = (s.mic m).engine.sumY + y.natAbs * y.natAbs ∧
              (t.mic m).engine.sumE = (s.mic m).engine.sumE + e.natAbs * e.natAbs ∧
              (let noted := fun (x : Mark) (clamped : Prop) (y : Mark) =>
                 (¬clamped → y = x) ∧
                 (clamped → y =
                   if x.raised then { x with tally := min 65535 (x.tally + 1) } else ⟨true, 1, s.position, 255⟩)
               noted (s.mic m).engine.estMark (q ≠ y) (t.mic m).engine.estMark ∧
               noted (s.mic m).engine.errMark (d - y ≠ e) (t.mic m).engine.errMark) ∧
              ((∀ r, (s.path m r).gate = false) → (t.mic m).engine.coefMark = (s.mic m).engine.coefMark))

/-- The coefficient update (R33, R34): while RUNNING, with chains that share no segment, a coefficient of a path whose
gate is open moves by the rounded G × e × x / 65536 and is clamped to 24 bits; a coefficient of a path whose gate is
closed, and of a segment in no chain, stands. The coefficients a clamp changes are tallied in the microphone's
COEF_SAT mark, which the first of the frame sets with its sample position and its reference lane (R33, R38); that the
lower of two lanes that clamp in one sample is the first is the model's choice (assumption 20). -/
def Obligations.OpenGatesMoveCoefficients : Prop :=
  ∀ (slots : Vector (BitVec 32) 16) (pins : BitVec 8) (s : State), s.phase = .sampling → s.engine = .running →
      s.chainsApart →
      ∃ t, exec (.captureSample slots pins) s = .next t ∧
        t = { s with
          outNow := t.outNow, outNext := t.outNext, port := t.port, refs := t.refs, mics := t.mics, pool := t.pool,
          inLines := t.inLines, position := t.position, phase := t.phase } ∧
        (∀ m, (t.mic m).talk = (s.mic m).talk ∧ (t.mic m).ring = (s.mic m).ring ∧ (t.mic m).trim = (s.mic m).trim ∧
          (t.mic m).engine.sticky = (s.mic m).engine.sticky ∧ (t.mic m).out.gain = (s.mic m).out.gain ∧
          (t.mic m).out.floor = (s.mic m).out.floor ∧ (s.layout.mics ≤ m.val → t.mic m = s.mic m)) ∧
        (let error : MicLane → Int := fun m => max (-32768) (min 32767
           (max (-32768) (min 32767 (roundQuotient s.active.rounding
               (((slots.get m).extractLsb' 16 16).toInt * trimGain (s.mic m).trim) 16384)) -
             max (-32768) (min 32767 (roundQuotient s.active.rounding
               ({ s with refs := t.refs }.accumulate m) (2 ^ 23)))))
         let moved : MicLane → RefLane → Nat → SegIndex → Fin 64 → Int := fun m r p i j =>
           (s.segment i).coefs.get j + roundQuotient s.active.rounding
             ((s.path m r).gain * error m * (t.ref r).tap ((s.path m r).lead + 64 * p + j.val)) 65536
         let clamps : MicLane → RefLane → Nat := fun m r =>
           if (s.path m r).gate = true then
             ∑ p : Fin (s.path m r).chain.length, ∑ j : Fin 64,
               if max (-8388608) (min 8388607 (moved m r p.val ((s.path m r).chain.get p) j)) =
                   moved m r p.val ((s.path m r).chain.get p) j then 0 else 1
           else 0
         (∀ (m : MicLane) (r : RefLane) (p : Nat) (i : SegIndex) (j : Fin 64), m.val < s.layout.mics →
           (s.path m r).chain[p]? = some i → (s.path m r).gate = true →
             (t.segment i).coefs.get j = max (-8388608) (min 8388607 (moved m r p i j))) ∧
         ∀ m : MicLane, m.val < s.layout.mics →
           let x := (s.mic m).engine.coefMark
           let n := ∑ r : RefLane, clamps m r
           let lane : Nat := ((allRefs.filter fun r => decide (clamps m r ≠ 0)).map Fin.val).headD 255
           (t.mic m).engine.coefMark =
             if n = 0 then x else if x.raised then { x with tally := min 65535 (x.tally + n) }
             else ⟨true, min 65535 n, s.position, lane⟩) ∧
        (∀ (m : MicLane) (r : RefLane) (p : Nat) (i : SegIndex), (s.path m r).chain[p]? = some i →
          (s.path m r).gate = false → t.segment i = s.segment i) ∧
        (∀ i : SegIndex, (∀ (m : MicLane) (r : RefLane), i ∉ (s.path m r).chain) → t.segment i = s.segment i)

/-- The noise generators step once per RUNNING capture sample, whatever the output source, the mute and the gain, and
hold while PARKED and on unconfigured lanes (R141). The sample position counts the frame's samples (R4). That the sample
at position 127 makes a frame end due, which waits to be taken with the position at 127, and that the position keeps its
value while PARKED, where R4 keeps none, are the model's choice (assumption 2). -/
def Obligations.GeneratorsAndPositionsAdvance : Prop :=
  (∀ (slots : Vector (BitVec 32) 16) (pins : BitVec 8) (s : State), s.phase = .sampling →
       ∃ t, exec (.captureSample slots pins) s = .next t ∧ ∀ m : MicLane,
         (s.engine = .running → m.val < s.layout.mics → (s.mic m).out.generator.getLsbD 0 = true →
           (t.mic m).out.generator = ((s.mic m).out.generator >>> 1) ^^^ s.active.noiseTaps) ∧
         (s.engine = .running → m.val < s.layout.mics → (s.mic m).out.generator.getLsbD 0 = false →
           (t.mic m).out.generator = (s.mic m).out.generator >>> 1) ∧
         (s.engine = .parked ∨ s.layout.mics ≤ m.val → (t.mic m).out.generator = (s.mic m).out.generator)) ∧
  (∀ (slots : Vector (BitVec 32) 16) (pins : BitVec 8) (s : State), s.phase = .sampling →
       ∃ t, exec (.captureSample slots pins) s = .next t ∧ t.frameCounter = s.frameCounter ∧
         (s.engine = .parked → t.position = s.position ∧ t.phase = .sampling) ∧
         (s.engine = .running → s.position < 127 → t.position = s.position + 1 ∧ t.phase = .sampling) ∧
         (s.engine = .running → s.position = 127 → t.phase = .due))

/-- The three rounding modes (R24): FLOOR is the greatest integer not above the quotient, TOWARD_ZERO its integer
part, NEAREST_EVEN the nearest integer, the even one halfway. The ERLE index is the largest qualifying index in
0..40 (R50), and the amplitude the largest integer whose square does not exceed the noise floor (R142). -/
def Obligations.RoundingIndexAndRoot : Prop :=
  (∀ (num : Int) (den : Nat), 0 < den →
       (roundQuotient .floor num den * den ≤ num ∧ num < (roundQuotient .floor num den + 1) * den) ∧
       (0 ≤ num → roundQuotient .towardZero num den = roundQuotient .floor num den) ∧
       (num < 0 → num ≤ roundQuotient .towardZero num den * den ∧
         (roundQuotient .towardZero num den - 1) * den < num) ∧
       (2 * (num - roundQuotient .nearestEven num den * den).natAbs ≤ den ∧
         (2 * (num - roundQuotient .nearestEven num den * den).natAbs = den →
           roundQuotient .nearestEven num den % 2 = 0)) ∧
       (∀ q mode, num = q * den → roundQuotient mode num den = q)) ∧
  ((∀ d e : Nat, 0 < e →
       (∀ k, k ≤ 40 → e * erleThreshold k ≤ d * 128 → k ≤ erleIndex d e) ∧ erleIndex d e ≤ 40 ∧
         (erleIndex d e = 0 ∨ e * erleThreshold (erleIndex d e) ≤ d * 128)) ∧
     (∀ d, erleIndex d 0 = 40) ∧
     ∀ n, n < 2 ^ 32 → floorSqrt n * floorSqrt n ≤ n ∧ n < (floorSqrt n + 1) * (floorSqrt n + 1))

/-! ## The end of a frame -/

/-- FRAME_END with a frame end due, or begun by the row of one of its events: the counter advances by one and wraps,
the position returns to 0, samples of the next frame may be taken, and the engine stays RUNNING in its layout (R4);
what every frame end leaves for the next frame: modes, suppression gains, gains and gates of every path, all read with
the set that governed the frame just ended (R29 to R31, R56, R139, R149) and with the loss decision of this frame end
(R9, R43), which an arrival since does not change (assumption 40). Otherwise it changes nothing while samples are
being taken (assumption 4). A capture sample, and an ENGINE.PARK, that comes with a frame end due or begun takes it
whole first (assumption 2). What the opening of a frame end measures of the frame just ended: levels and smoothed
powers of the configured reference lanes (R26, R27), frame energies of the configured microphones (R35), the energy of
each ACTIVE segment (R36); and the counts it advances: the open-gate counts of enabled paths whose gate was open (R85),
the push interval counts (R107) and the rebalance count (R86). That they come before all other work is assumption 19. -/
def Obligations.FrameEndDecidesTheNextFrame : Prop :=
  (∀ s : State, s.phase = .due →
       let u := s.openFrame
       u = { s with
         refs := u.refs, mics := u.mics, paths := u.paths, pool := u.pool, rebalance := s.rebalance + 1, phase := u.phase } ∧
       (∃ w, u.phase = .taking w ∧ w.governing = s.active ∧ w.loss = none ∧
         ∀ m, w.adapting.get m = true ↔ (s.mic m).talk.mode = .live ∧ (s.mic m).talk.talk = .far) ∧
       (∀ r : RefLane,
         let level := (s.ref r).sumSquares / 128
         u.ref r = if r.val < s.layout.refs then { s.ref r with
             level := level
             power := (((s.ref r).power : Int) + ((level : Int) - ((s.ref r).power : Int)) / 8).toNat
             sumSquares := 0 }
           else s.ref r) ∧
       (∀ m : MicLane,
         let e := (s.mic m).engine
         u.mic m = if m.val < s.layout.mics then { s.mic m with
             engine := { e with
               ed := e.sumD / 128, ey := e.sumY / 128, ee := e.sumE / 128, sumD := 0, sumY := 0, sumE := 0 }
             ring := { (s.mic m).ring with interval := min 65535 ((s.mic m).ring.interval + 1) } }
           else s.mic m) ∧
       (∀ m r, u.path m r = if s.enabled m r = true ∧ (s.path m r).gate = true then
           { s.path m r with openGates := min 255 ((s.path m r).openGates + 1) }
         else s.path m r) ∧
       ∀ i : SegIndex,
         ((∃ m r p, (s.segment i).owner = .active m r p) → u.segment i = { s.segment i with
           energy := ((s.segment i).coefs.toList.map fun x => (x / 256).natAbs * (x / 256).natAbs).sum }) ∧
         ((∀ m r p, (s.segment i).owner ≠ .active m r p) → u.segment i = s.segment i)) ∧
  (∀ s : State, s.phase ≠ .sampling →
       ∃ t, exec .frameEnd s = .next t ∧ t.frameCounter = s.frameCounter + 1#32 ∧ t.position = 0 ∧ t.phase = .sampling ∧
         t.engine = s.engine ∧ t.layout = s.layout ∧ t.outNow = s.outNow ∧ t.outNext = s.outNext) ∧
  (∀ (s : State) (p : Params), s.phase = .due ∧ p = s.active ∨ (∃ w, s.phase = .taking w ∧ p = w.governing) →
       ∃ t lost, exec .frameEnd s = .next t ∧
         (s.phase = .due → lost = t.port.lost) ∧
         (∀ w, s.phase = .taking w → w.loss = none ∨ Task.loss ∉ w.todo → lost = w.loss.getD t.port.lost) ∧
         (∀ m : MicLane, m.val < t.layout.mics →
           (t.mic m).talk.mode =
             (if (t.mic m).talk.halt then .halted
               else if (t.mic m).talk.freeze || (t.mic m).talk.levelHold || decide (0 < (t.mic m).holdSpan) then .frozen
               else .live) ∧
           (t.mic m).out.gain = if (t.mic m).talk.talk = .far then attenGain p.nlpAtten else 32767) ∧
         (∀ m r, (t.path m r).gain =
           if t.enabled m r = true ∧ (t.path m r).chain ≠ [] then
             p.step * 2 ^ 31 / ((t.ref r).power * (64 * (t.path m r).chain.length) + p.reg * 65536)
           else 0) ∧
         (∀ m r, (t.path m r).gate = true ↔
           t.enabled m r = true ∧ (t.mic m).talk.mode = .live ∧ (t.mic m).talk.talk = .far ∧ lost = false ∧
             p.farLevel < (t.ref r).level ∧
               (t.path m r).lead + 64 * (t.path m r).chain.length ≤ (t.ref r).fill ∧ (t.path m r).chain ≠ [])) ∧
  (∀ s : State, s.phase = .sampling → exec .frameEnd s = .next s) ∧
  (∀ s u : State, exec .frameEnd s = .next u →
       (∀ (slots : Vector (BitVec 32) 16) (pins : BitVec 8),
         exec (.captureSample slots pins) s = exec (.captureSample slots pins) u) ∧
       (s.engine = .running → s.accepting → u.accepting ∧ ∀ tag, exec (.enginePark tag) s = exec (.enginePark tag) u))

/-- Whatever order the free choices take, a frame end that is due takes every piece of its work: none is left waiting
for another. An automatic push and a restore of its microphone, by CKPT.RECALL or a RECALL line, may each come first
(R113); it does not come before a PUSH line of its microphone, in whose push it is made (R108, R165). FRAME_END is that
frame end, closed: the work it opens with has every piece once, those of the device, of each configured microphone and,
where the rebalance count has reached REBAL_FRAMES, the evaluation; and it takes each of them, one after another, none
before a piece it waits for (R4, R86). What a piece does to the state is said of State.runTask or of the operation that
this statement gives for it: of the pending work of requests in TrimMovesPendingSteps, PathLimitsBecomePending,
FreezeMuteAndOutputSource, PushMakesARecord, SlotRequestsActOnTheirSlot, LineRequestsActOnTheirLine and
FaultReadAndClear. (The pieces and the orders that constrain them are assumption 3; the outlook that evaluation and
automatic pushes read is assumption 21.) -/
def Obligations.FrameEndTakesAllItsWork : Prop :=
  (∀ (choose : Nat → Nat) (s : State), s.phase = .due → (s.openFrame.takeSelected choose fun _ => true).todo = []) ∧
  (∀ s : State, s.phase = .due →
    ∃ w, s.openFrame.phase = .taking w ∧ w.todo.Nodup ∧
      ∀ x : Task, x ∈ w.todo ↔
        match x with
        | .satFaults m | .talk m | .trim m | .forcedPush m | .autoPush m | .recall m | .slotCommand m _ | .reset m
        | .restoredFaults m | .rollback m | .hostFlags m => m.val < s.layout.mics
        | .evaluation => s.active.rebalFrames ≤ s.rebalance + 1
        | .slips | .loss | .limits | .cuts | .minFill | .granting | .poolLow | .faultClear | .commit | .sessionIdle
        | .lineForm | .lineSpans | .lineAction _ | .lineLevels | .inEntry _ | .outEntry _ => True) ∧
  (∀ s : State, s.phase = .due →
    (∀ choose : Nat → Nat, ∃ (w : FrameWork) (order : List Task), s.openFrame.phase = .taking w ∧ order.Perm w.todo ∧
      s.openFrame.takesInOrder order (s.openFrame.takeSelected choose fun _ => true)) ∧
    exec .frameEnd s = .next (s.openFrame.takeSelected Config.frameEndChoice fun _ => true).closeFrame) ∧
  (∀ (x : Task) (w : FrameWork) (s : State), s.phase = .taking w →
    let left : FrameWork := { w with todo := w.todo.erase x }
    s.takeTask x = State.runTask x left { s with phase := .taking left }) ∧
  (∀ (m : MicLane) (k : InLineIndex) (w : FrameWork) (s : State), s.phase = .taking w →
    s.runTask (.satFaults m) w = s.convertMarks m ∧ s.runTask (.talk m) w = s.talkWork m w ∧
    s.runTask (.autoPush m) w = s.autoPush m w ∧ s.runTask (.reset m) w = s.takeReset m w ∧
    (w.restoreTaken.get m = true → s.runTask (.restoredFaults m) w = s) ∧
    (w.restoreTaken.get m = false → s.runTask (.restoredFaults m) w = s.raiseRestored m) ∧
    ((∀ h, w.handover.get m = some h → h.event = false) → s.runTask (.rollback m) w = s) ∧
    s.runTask .evaluation w = s.evaluate w s.haltedNext ∧ s.runTask .minFill w = s.minFill ∧
    s.runTask .granting w = s.serveQueue ∧ s.runTask .poolLow w = s.testPool w.governing ∧
    s.runTask .commit w = s.countCommit w ∧ s.runTask .sessionIdle w = s.countIdle ∧
    s.runTask .lineForm w = s.formLines ∧ s.runTask .lineSpans w = s.countSpans ∧
    (∀ ev, w.events.get k = some ev → s.runTask (.lineAction k) w = s.actLine k ev) ∧
    (w.events.get k = none → s.runTask (.lineAction k) w = s) ∧
    s.runTask .lineLevels w = s.handLevels w ∧ s.runTask (.inEntry k) w = s.takeInEntry k) ∧
  (∀ (m : MicLane) (u : Task) (w : FrameWork),
    u = .recall m ∨ (∃ k ev, u = .lineAction k ∧ w.events.get k = some ev ∧ ev.entry.action = .recall) →
    w.todo = [.autoPush m, u] ∨ w.todo = [u, .autoPush m] →
    ∃ first second : Nat, w.pick first (fun _ => true) = some (.autoPush m) ∧ w.pick second (fun _ => true) = some u) ∧
  ∀ (m : MicLane) (k : InLineIndex) (ev : LineEvent) (w : FrameWork) (choice : Nat), Task.lineAction k ∈ w.todo →
    w.events.get k = some ev → ev.entry.action = .push → ev.entry.mask.getLsbD m.val = true →
    w.pick choice (fun _ => true) ≠ some (.autoPush m)

/-- The Line Controller at a frame end. The output lines after it show their sources as the frame end leaves them,
inverted where the entry says so; ROLLBACK_PULSE shows the rollbacks of divergence events taken at that frame end,
which no other work of it sets, and reads low after ENGINE.PARK (R168). Every capture sample samples the eight pins,
and while RUNNING latches the edges of RISING and FALLING lines (R162, R163). Step 1 forms each line's event or active
flag, clears latch and pulse and records the level, a line whose pending entry was taken before giving no event (R163,
R166, R167); step 2 counts the hold spans down (R163); step 3 takes the action of an event with one LINE report (R165,
R169), whose place after the reports that its restores or pushes raise is the model's choice (assumption 16); step 4
hands the level causes to the configured microphones (R164). -/
def Obligations.FrameEndDrivesTheOutputLines : Prop :=
  (∀ s : State, s.phase = .due →
      ∃ t, exec .frameEnd s = .next t ∧ ∀ k : OutLineIndex,
        let e := (t.outLines.get k).entry
        let v := xor (t.outLines.get k).value e.invert
        (e.source = .fixedLow → v = false) ∧ (e.source = .fixedHigh → v = true) ∧
        (e.source = .refLost → v = t.port.lost) ∧
        (e.source = .farAny →
          (v = true ↔ ∃ m : MicLane, m.val < t.layout.mics ∧ e.mask.getLsbD m.val = true ∧ (t.mic m).talk.talk = .far)) ∧
        (e.source = .nearAny →
          (v = true ↔ ∃ m : MicLane, m.val < t.layout.mics ∧ e.mask.getLsbD m.val = true ∧ (t.mic m).talk.talk = .near)) ∧
        (e.source = .doubleAny →
          (v = true ↔
            ∃ m : MicLane, m.val < t.layout.mics ∧ e.mask.getLsbD m.val = true ∧ (t.mic m).talk.talk = .double)) ∧
        (e.source = .haltedAny →
          (v = true ↔ ∃ m : MicLane, m.val < t.layout.mics ∧ e.mask.getLsbD m.val = true ∧ (t.mic m).talk.mode = .halted)) ∧
        (e.source = .mutedAny →
          (v = true ↔ ∃ m : MicLane, m.val < t.layout.mics ∧ e.mask.getLsbD m.val = true ∧
            ((t.mic m).out.mute = true ∨ (t.mic m).out.lineMute = true))) ∧
        (e.source = .settledAll →
          (v = true ↔ (∃ m : MicLane, m.val < t.layout.mics ∧ e.mask.getLsbD m.val = true) ∧
            ∀ m : MicLane, m.val < t.layout.mics → e.mask.getLsbD m.val = true → (t.mic m).talk.settled = true)) ∧
        (e.source = .rollbackPulse →
          (v = true ↔ ∃ (m : MicLane) (w : FrameWork), m.val < t.layout.mics ∧ e.mask.getLsbD m.val = true ∧
            (s.openFrame.takeSelected Config.frameEndChoice fun _ => true).phase = .taking w ∧
            w.rolledBack.get m = true))) ∧
  ((∀ s : State, s.phase = .due →
      ∃ w, s.openFrame.phase = .taking w ∧ ∀ m, w.rolledBack.get m = false) ∧
    (∀ (x : Task) (w v : FrameWork) (s : State), s.phase = .taking v →
      ∃ u, (s.runTask x w).phase = .taking u ∧ ∀ m, u.rolledBack.get m = true ↔
        v.rolledBack.get m = true ∨ x = .rollback m ∧ ∃ h, w.handover.get m = some h ∧ h.event = true) ∧
    ∀ (tag : Byte) (s : State), s.accepting → s.engine = .running →
      ∃ t, exec (.enginePark tag) s = .next t ∧ ∀ k : OutLineIndex,
        (t.outLines.get k).entry.source = .rollbackPulse →
        (t.outLines.get k).value = (t.outLines.get k).entry.invert) ∧
  (∀ (slots : Vector (BitVec 32) 16) (pins : BitVec 8) (s : State), s.phase = .sampling →
      ∃ t, exec (.captureSample slots pins) s = .next t ∧ ∀ k : InLineIndex,
        let x := s.inLines.get k
        let y := t.inLines.get k
        y = { x with latch := y.latch, last := pins.getLsbD k.val } ∧
          (y.latch = true ↔ x.latch = true ∨ s.engine = .running ∧ x.entry.action ≠ .none ∧
            (x.entry.edge = .rising ∧ xor x.last x.entry.invert = false ∧ xor y.last x.entry.invert = true ∨
              x.entry.edge = .falling ∧ xor x.last x.entry.invert = true ∧ xor y.last x.entry.invert = false))) ∧
  (∀ (w : FrameWork) (s : State), s.phase = .taking w →
      ∃ v, s.formLines = { s with inLines := s.formLines.inLines, phase := .taking v } ∧
        v = { w with events := v.events, holdFormed := v.holdFormed, muteFormed := v.muteFormed } ∧
        (∀ k : InLineIndex,
          let x := s.inLines.get k
          s.formLines.inLines.get k = { x with
            active := decide (x.entry.action ≠ .none ∧ x.entry.edge = .level ∧ xor x.last x.entry.invert = true)
            latch := false, pulse := false, lastFrame := x.last } ∧
          v.events.get k =
            if w.entryTaken.get k = false ∧ x.entry.action ≠ .none ∧ x.entry.edge ≠ .level ∧
                (x.latch = true ∨ x.pulse = true ∨ x.entry.edge = .both ∧ x.last ≠ x.lastFrame) then
              some ⟨x.entry, decide (x.latch = true ∨ x.entry.edge = .both ∧ x.last ≠ x.lastFrame), x.pulse⟩
            else none) ∧
        ∀ m : MicLane,
          (v.holdFormed.get m = true ↔ ∃ k : InLineIndex, (s.inLines.get k).entry.action = .holdLevel ∧
            (s.formLines.inLines.get k).active = true ∧ (s.inLines.get k).entry.mask.getLsbD m.val = true) ∧
          (v.muteFormed.get m = true ↔ ∃ k : InLineIndex, (s.inLines.get k).entry.action = .muteLevel ∧
            (s.formLines.inLines.get k).active = true ∧ (s.inLines.get k).entry.mask.getLsbD m.val = true)) ∧
  (∀ (k : InLineIndex) (e : InEntry) (w : FrameWork) (s : State), s.phase = .taking w →
      (s.inLines.get k).pendingEntry = some e →
      s.takeInEntry k = { s with
        inLines := (s.takeInEntry k).inLines, phase := .taking { w with entryTaken := tablePut w.entryTaken k true } } ∧
      (s.takeInEntry k).inLines.get k =
        { s.inLines.get k with entry := e, pendingEntry := none, latch := false, pulse := false, active := false } ∧
      ∀ k', k' ≠ k → (s.takeInEntry k).inLines.get k' = s.inLines.get k') ∧
  (∀ s : State, s.countSpans = { s with mics := s.countSpans.mics } ∧
      ∀ m, s.countSpans.mic m = { s.mic m with holdSpan := (s.mic m).holdSpan - 1 }) ∧
  (∀ (k : InLineIndex) (e : InEntry) (edge pulse : Bool) (s : State),
      let t := s.actLine k ⟨e, edge, pulse⟩
      let on := fun m : MicLane => e.mask.getLsbD m.val = true ∧ m.val < s.layout.mics
      let told := fun (outcome : Byte) (acted left : BitVec 16) (l : Link) =>
        l.report .line (byteOf k.val :: byteOf e.action.code ::
          (if edge = true ∧ pulse = true then 2#8 else if pulse = true then 1#8 else 0#8) :: outcome ::
            (le2 acted.toNat ++ le2 left.toNat ++ le4 s.frameCounter.toNat))
      (e.action = .holdSpan → ∃ acted : BitVec 16, (∀ m : MicLane, acted.getLsbD m.val = true ↔ on m) ∧
        t = { s with mics := t.mics, link := told 0#8 acted 0#16 s.link } ∧
        ∀ m, (on m → t.mic m = { s.mic m with holdSpan := e.argument }) ∧ (¬on m → t.mic m = s.mic m)) ∧
      (e.action = .muteToggle → ∃ acted : BitVec 16, (∀ m : MicLane, acted.getLsbD m.val = true ↔ on m) ∧
        t = { s with mics := t.mics, link := told 0#8 acted 0#16 s.link } ∧
        ∀ m, (on m → t.mic m = { s.mic m with
          out := { (s.mic m).out with mute := !(s.mic m).out.mute, mutePending := !(s.mic m).out.mute } }) ∧
          (¬on m → t.mic m = s.mic m)) ∧
      (e.action = .reportOnly → ∃ acted : BitVec 16, (∀ m : MicLane, acted.getLsbD m.val = true ↔ on m) ∧
        t = { s with link := told 0#8 acted 0#16 s.link }) ∧
      (e.action = .commit → s.staged ≠ none → t = { s with link := told 2#8 0#16 0#16 s.link }) ∧
      (e.action = .commit → s.staged = none →
        t = { s with
          shadow := t.shadow, staged := t.staged, countdown := e.argument, phase := t.phase,
          link := told 0#8 0#16 0#16 s.link } ∧
        t.shadow = { s.shadow with
          growShift := min s.shadow.growShift (s.shadow.tailShift - 1)
          adaptMin := min s.shadow.adaptMin s.shadow.rebalFrames } ∧
        t.staged = some ⟨t.shadow, .lineAction, e.argument, 0⟩) ∧
      (e.action = .recall → e.argument ≤ 3 →
        (∀ m, on m → (s.slot m (Fin.ofNat 4 e.argument)).tag = .empty ∨
          (s.slot m (Fin.ofNat 4 e.argument)).tag = .filling) →
        ∃ left : BitVec 16, (∀ m : MicLane, left.getLsbD m.val = true ↔ on m) ∧
          t = { s with link := told (if left = 0#16 then 0#8 else 1#8) 0#16 left s.link }) ∧
      (e.action = .recall → e.argument ≤ 3 → ∀ (m : MicLane) (rec : CkptRecord), (∀ m', on m' ↔ m' = m) →
        let x := s.slot m (Fin.ofNat 4 e.argument)
        x.tag = .valid ∨ x.tag = .held → x.record = some rec → s.restoreFits m rec = true → s.copyFits m rec = true →
        ∃ l, (∃ acted : BitVec 16, (∀ m' : MicLane, acted.getLsbD m'.val = true ↔ m' = m) ∧
            t.link = told 0#8 acted 0#16 l) ∧
          (t.mic m).trim = rec.trim ∧ (t.mic m).trimPending = rec.trim ∧ (t.mic m).talk.erle = rec.erle ∧
          (t.mic m).talk.settled = rec.settled ∧ (t.mic m).engine.sticky = rec.sticky ∧
          t.slot m (Fin.ofNat 4 e.argument) = x ∧ ∀ m', m' ≠ m → t.mic m' = s.mic m') ∧
      (e.action = .push → ∀ (m : MicLane) (w : FrameWork), (∀ m', on m' ↔ m' = m) → s.phase = .taking w →
        (∃ l, ∃ acted : BitVec 16, (∀ m' : MicLane, acted.getLsbD m'.val = true ↔ m' = m) ∧
          t.link = told 0#8 acted 0#16 l) ∧
        (∀ m', m' ≠ m → t.mic m' = s.mic m') ∧
        (w.resetTaken.get m = true → t = { s with link := t.link }) ∧
        (w.resetTaken.get m = false → w.pushTaken.get m = true ∨ (s.mic m).talk.halt = true →
          t = { s with drawn := t.drawn, mics := t.mics, link := t.link, phase := t.phase } ∧
            t.mic m = { s.mic m with ring := { (s.mic m).ring with pushPending := false } }) ∧
        (w.resetTaken.get m = false → w.pushTaken.get m = false → (s.mic m).talk.halt = false →
          s.slot m ((s.mic m).ring.top + 1) = Slot.blank → s.micActive m ≤ s.freeCount →
          ∃ rec, t.slot m ((s.mic m).ring.top + 1) = ⟨.valid, false, some rec, none⟩ ∧
            rec.sequence = t.pushSequence ∧ (t.mic m).ring.top = (s.mic m).ring.top + 1 ∧
            (t.mic m).ring.pushPending = false ∧
            t.pushSequence = if s.pushSequence = 4294967295#32 then 1#32 else s.pushSequence + 1#32))) ∧
  (∀ (w : FrameWork) (s : State),
      s.handLevels w = { s with mics := (s.handLevels w).mics } ∧
      ∀ m : MicLane,
        (m.val < s.layout.mics → (s.handLevels w).mic m = { s.mic m with
          talk := { (s.mic m).talk with levelHold := w.holdFormed.get m }
          out := { (s.mic m).out with lineMute := w.muteFormed.get m } }) ∧
        (s.layout.mics ≤ m.val → (s.handLevels w).mic m = s.mic m))

/-- The Talk Detector's work on one microphone (R47, R48) and its noise floor (R140): presence and hangover from each
test, the talk state from the two presences, the floor from the frame's error energy. The far test holds when the
reference is not lost and some configured reference is louder than FAR_LEVEL (R44); the near test is the coupling test
before the microphone is settled and the residual test after it (R45, R46), with the loss decision of this frame end
where it is taken (R9, R43). The comfort-noise amplitude is the root of the new floor (R142). A TALK report tells a
changed talk state, unless a MIC.RESET of the microphone is still to be taken at this frame end, and a SETTLE report
INDEX a changed settled flag (R48, R51, R53). At the end of an adapting frame for which no restore has been taken the
smoothed energies, the ERLE index, the settled flag and the divergence count follow R49 to R52, and an event is handed
over; at any other they stand (R43, R53). Where a MIC.RESET of the microphone has been taken, none of this work is
performed; where one is pending and no TALK report of this frame end has been raised for it, it is taken, leaves the
row of R59 and raises SETTLE (clear, RESET) if the flag was set before the frame end or is set then (R53, R159; the
second is assumption 12's); after a TALK report of this frame end it stays pending (assumption 4). -/
def Obligations.TalkWorkJudgesTheFrame : Prop :=
  (∀ (m : MicLane) (w : FrameWork) (s : State), s.phase = .taking w → w.resetTaken.get m = false →
      let t := s.talkWork m w
      let p := w.governing
      let x := s.mic m
      let y := t.mic m
      let lost := w.loss.getD s.port.lost
      let far := s.farTest p || decide (0 < x.talk.farHang)
      let near := s.nearTest p m || decide (0 < x.talk.nearHang)
      y.talk.talk = (if far then (if near then TalkState.double else .far) else (if near then .near else .quiet)) ∧
      y.talk.farHang = (if s.farTest p then p.farHang else x.talk.farHang - 1) ∧
      y.talk.nearHang = (if s.nearTest p m then p.nearHang else x.talk.nearHang - 1) ∧
      y.out.floor =
        (if x.engine.ee < x.out.floor then x.engine.ee
          else min x.engine.ee (x.out.floor + x.out.floor / 128 + 1)) ∧
      y.out.amplitude = floorSqrt y.out.floor ∧
      (∀ m', m' ≠ m → t.mic m' = s.mic m') ∧
      (let quiet := y.talk.talk = x.talk.talk ∨ x.resetPending = true ∧ Task.reset m ∈ w.todo
       let l := if quiet then s.link
         else s.link.report .talk
           (byteOf m.val :: byteOf x.talk.talk.code :: byteOf y.talk.talk.code :: le4 s.frameCounter.toNat)
       t.link = if y.talk.settled = x.talk.settled then l
         else l.report .settle (byteOf m.val :: (if y.talk.settled then 1#8 else 0#8) :: byteOf y.talk.erle :: 0#8 ::
           le4 s.frameCounter.toNat)) ∧
      (s.farTest p = true ↔ lost = false ∧ ∃ r : RefLane, r.val < s.layout.refs ∧ p.farLevel < (s.ref r).level) ∧
      (∃ loudest : Nat,
        (lost = true → loudest = 0) ∧
        (lost = false → (∀ r : RefLane, r.val < s.layout.refs → (s.ref r).level ≤ loudest) ∧
          (loudest = 0 ∨ ∃ r : RefLane, r.val < s.layout.refs ∧ (s.ref r).level = loudest)) ∧
        (s.nearTest p m = true ↔
          if w.settledBefore.get m = true then
            x.engine.ey * p.nearRatio + 32 * x.out.floor < x.engine.ee * 16
          else loudest * p.coupling < x.engine.ed * 16 ∧ 2 * x.out.floor < x.engine.ed)) ∧
      (∃ v h, t.phase = .taking v ∧ v = { w with handover := v.handover } ∧ v.handover.get m = some h ∧
        h.erle = y.talk.erle ∧ h.settled = y.talk.settled ∧
        (h.told = true ↔ y.talk.talk ≠ x.talk.talk ∧ ¬(x.resetPending = true ∧ Task.reset m ∈ w.todo)) ∧
        (w.adapting.get m = true ∧ w.restoreTaken.get m = false →
          y.talk.edSmooth = ((x.talk.edSmooth : Int) + ((x.engine.ed : Int) - x.talk.edSmooth) / 8).toNat ∧
          y.talk.eeSmooth = ((x.talk.eeSmooth : Int) + ((x.engine.ee : Int) - x.talk.eeSmooth) / 8).toNat ∧
          y.talk.erle = erleIndex y.talk.edSmooth y.talk.eeSmooth ∧
          y.talk.settled = (if x.talk.settled then decide (p.settleIndex ≤ y.talk.erle + 4)
            else decide (p.settleIndex ≤ y.talk.erle)) ∧
          h.event = decide (x.engine.ed < x.engine.ee ∧ p.divFrames ≤ x.talk.divCount + 1) ∧
          h.calm = decide (x.engine.ee ≤ x.engine.ed) ∧
          y.talk.divCount =
            if x.engine.ed < x.engine.ee ∧ x.talk.divCount + 1 < p.divFrames then x.talk.divCount + 1 else 0) ∧
        (¬(w.adapting.get m = true ∧ w.restoreTaken.get m = false) →
          y.talk.edSmooth = x.talk.edSmooth ∧ y.talk.eeSmooth = x.talk.eeSmooth ∧ y.talk.erle = x.talk.erle ∧
          y.talk.settled = x.talk.settled ∧ y.talk.divCount = x.talk.divCount ∧ h.event = false ∧ h.calm = false))) ∧
  (∀ (m : MicLane) (w : FrameWork) (s : State), w.resetTaken.get m = true → s.talkWork m w = s) ∧
  (∀ (m : MicLane) (w : FrameWork) (s : State), s.phase = .taking w →
      let t := s.takeReset m w
      let told := ∃ h, w.handover.get m = some h ∧ h.told = true
      ((s.mic m).resetPending = false ∨ told → t = s) ∧
      ((s.mic m).resetPending = true → ¬told →
        (∃ v, t.phase = .taking v ∧ v.resetTaken.get m = true ∧ v.handover.get m = none) ∧
        (t.mic m).resetPending = false ∧ (t.mic m).holdSpan = 0 ∧ (t.mic m).haltKinds = 0#16 ∧
        (t.mic m).engine.sticky = .clear ∧ (t.mic m).trim = (s.mic m).trim ∧
        (t.mic m).trimPending = (s.mic m).trimPending ∧
        (t.mic m).talk = { (s.mic m).talk with
          talk := .quiet, nearHang := 0, farHang := 0, edSmooth := 0, eeSmooth := 0, erle := 0, settled := false
          divCount := 0, freeze := false, freezePending := false, halt := false
          mode := if (s.mic m).talk.levelHold then .frozen else .live } ∧
        (∀ m', m' ≠ m → t.mic m' = s.mic m') ∧
        (w.settledBefore.get m = true ∨ (s.mic m).talk.settled = true → ∃ l : Link,
          t.link = l.report .settle (byteOf m.val :: 0#8 :: 0#8 :: 3#8 :: le4 s.frameCounter.toNat))))

/-- REF_LOST: the silence count reaches 4 at a frame end; the FIFO is flushed, fills and powers are 0, the fault is
counted and a REFERENCE report LOST carries the two cumulative counts and the frame counter (R9, R28). That the
command opens the frame end and takes its own piece of it alone, so that nothing else moves but what the opening
measures, is the model's choice (assumptions 4 and 19), as is that the fault's report comes first (assumption 16); the
fault's detail bytes are free (assumption 39). The loss decision of a frame end, its own piece, has these effects where
the count reaches 4; otherwise it sets the silence count to 0 after an arrival and one further, at most 4, without one,
and clears the arrival mark (R9). -/
def Obligations.SilenceLosesTheReference : Prop :=
  (∀ (w : FrameWork) (s : State), s.phase = .taking w →
      let t := s.runTask .loss w
      (s.port.lost = true ∨ s.port.arrived = true ∨ s.port.silence < 3 → t = { s with
        port := { s.port with silence := if s.port.arrived then 0 else min 4 (s.port.silence + 1), arrived := false }
        phase := .taking { w with loss := some s.port.lost } }) ∧
      (s.port.lost = false → s.port.arrived = false → 3 ≤ s.port.silence →
        t = { s with
          port := { s.port with fifo := [], lost := true, silence := 4, arrived := false }
          refs := t.refs, link := t.link, phase := .taking { w with loss := some true } } ∧
        (∀ r, t.ref r = { s.ref r with fill := 0, power := 0 }) ∧
        (t.faultEntry .refLost).count = min 65535 ((s.faultEntry .refLost).count + 1) ∧
        ∃ d, t.link = (s.fault .refLost none d).link.report .reference
          (0#8 :: (le2 s.port.underruns ++ le2 s.port.overruns ++ le4 s.frameCounter.toNat)))) ∧
  ∀ s : State, s.phase = .due → s.port.lost = false → s.port.arrived = false → 3 ≤ s.port.silence →
      ∃ t, exec .refLost s = .next t ∧
        t = { s.openFrame with port := t.port, refs := t.refs, link := t.link, phase := t.phase } ∧
        t.port = { s.port with fifo := [], lost := true, silence := 4, arrived := false } ∧
        (∀ r, t.ref r = { s.openFrame.ref r with fill := 0, power := 0 }) ∧ (t.faultEntry .refLost).seen = true ∧
          (t.faultEntry .refLost).count = min 65535 ((s.faultEntry .refLost).count + 1) ∧
        ∃ d, t.link = (s.fault .refLost none d).link.report .reference
          (0#8 :: (le2 s.port.underruns ++ le2 s.port.overruns ++ le4 s.frameCounter.toNat))

/-- EVALUATION_FRAME_END: when the rebalance count reaches REBAL_FRAMES it returns to 0, and so do every path's
open-gate count and grant flag (R85, R86). A path is evaluated where it is enabled, was not pinned when the frame end
began, has an open-gate count of at least ADAPT_MIN, no grant flag and a total energy of at least 65,536, its
microphone is not HALTED for the next frame, and no restore, zeroing or MIC.RESET of the microphone has been taken at
this frame end; a path passed over keeps its chain and enqueues nothing (R37, R87, R92). Each path is judged by its
own chain, where no segment stands in two. That the command opens the frame end and takes its own piece of it alone,
with the measures that its opening makes, so that layout, session, sets and limits stand, is the model's choice
(assumptions 4 and 19); that the halts are those the frame end taken whole from there leaves is assumption 21. -/
def Obligations.EvaluationResetsItsCounts : Prop :=
  (∀ s : State, s.phase = .due → s.active.rebalFrames ≤ s.rebalance + 1 →
    ∃ t, exec .evaluationFrameEnd s = .next t ∧ t.rebalance = 0 ∧
      (∀ m r, (t.path m r).openGates = 0 ∧ (t.path m r).granted = false) ∧
      (∀ m r, s.enabled m r = false ∨ (s.path m r).pinned = true →
        (t.path m r).chain = (s.path m r).chain ∧ (t.path m r).lead = (s.path m r).lead) ∧
      (∀ m r, (t.path m r).minSegs = (s.path m r).minSegs ∧ (t.path m r).maxSegs = (s.path m r).maxSegs ∧
        (t.path m r).limits = (s.path m r).limits) ∧
      (s.chainsApart → ∀ m r,
        let u := s.openFrame
        let halted := ((s.approach (beforeEvaluation false)).foreseen .evaluation).haltedNext m
        let gates := if (s.path m r).gate then min 255 ((s.path m r).openGates + 1) else (s.path m r).openGates
        let total := ((s.path m r).chain.map fun i => (u.segment i).energy).sum
        let evaluated := s.enabled m r && !(s.path m r).pinned && decide (s.active.adaptMin ≤ gates) &&
          !(s.path m r).granted && decide (65536 ≤ total) && !halted
        let v := if evaluated then u.evaluatePath m r s.active else s
        let own := fun q : GrowRequest => q.m == m && q.r == r
        (t.path m r).chain = (v.path m r).chain ∧ (t.path m r).lead = (v.path m r).lead ∧
          t.queue.filter own = v.queue.filter own) ∧
      t.layout = s.layout ∧ t.session = s.session ∧ t.active = s.active ∧ t.shadow = s.shadow ∧ t.staged = s.staged ∧
      t.pushSequence = s.pushSequence) ∧
  (∀ (w : FrameWork) (halted : MicLane → Bool) (s : State), s.chainsApart →
    let t := s.evaluate w halted
    t.rebalance = 0 ∧ ∀ m r,
      let total := ((s.path m r).chain.map fun i => (s.segment i).energy).sum
      let evaluated := s.enabled m r && !(w.pinnedBefore.get m).get r &&
        decide (w.governing.adaptMin ≤ (s.path m r).openGates) && !(s.path m r).granted && decide (65536 ≤ total) &&
        !w.replaced.get m && !halted m
      let v := if evaluated then s.evaluatePath m r w.governing else s
      let own := fun q : GrowRequest => q.m == m && q.r == r
      t.path m r = { v.path m r with openGates := 0, granted := false } ∧ t.queue.filter own = v.queue.filter own)

/-- The four tests of an evaluated path (R88 to R90): the first whose conditions all hold is taken. A tail drop
releases the last segment, a head drop the first with the lead delay raised by 64, a growth test queues one
request where the path has none, and with none of them nothing changes; no other path moves. Each raises its TAIL report
with the cause, the segments released, and the chain, the lead delay and the counts as it leaves them (R102). -/
def Obligations.PathTestsTakeTheFirstThatHolds : Prop :=
  ∀ (m : MicLane) (r : RefLane) (p : Params) (s : State),
    let x := s.path m r
    let total := s.totalEnergy m r
    let n := x.chain.length
    let tailDrop := s.lastEnergy m r * 2 ^ p.tailShift < total ∧ x.minSegs < n
    let headDrop := s.firstEnergy m r * 2 ^ p.tailShift < total ∧ x.minSegs < n ∧ x.lead + 64 ≤ 2047
    let tailGrow := total ≤ s.lastEnergy m r * 2 ^ p.growShift ∧ n < x.maxSegs
    let headGrow := total ≤ s.firstEnergy m r * 2 ^ p.growShift ∧ 64 ≤ x.lead ∧ n < x.maxSegs
    let t := s.evaluatePath m r p
    let told := fun cause segments : Byte => s.link.report .tail
      (byteOf m.val :: byteOf r.val :: cause :: segments :: byteOf (t.path m r).chain.length ::
        (le2 (t.path m r).lead ++ 0#8 :: (le2 t.freeCount ++ le2 t.activeCount ++ le2 t.checkpointCount ++
          byteOf t.queue.length :: le4 s.frameCounter.toNat)))
    (tailDrop → t.path m r = { x with chain := x.chain.take (n - 1) } ∧
      t.freeList = s.freeList ++ x.chain.drop (n - 1) ∧ t.queue = s.queue ∧ t.link = told 0#8 1#8) ∧
    (¬tailDrop → headDrop → t.path m r = { x with chain := x.chain.drop 1, lead := x.lead + 64 } ∧
      t.freeList = s.freeList ++ x.chain.take 1 ∧ t.queue = s.queue ∧ t.link = told 1#8 1#8) ∧
    (¬tailDrop → ¬headDrop → tailGrow →
      (s.queued m r = true → t = s) ∧
      (s.queued m r = false → t = { s with queue := s.queue ++ [⟨m, r, .tail, 0⟩], link := told 2#8 0#8 })) ∧
    (¬tailDrop → ¬headDrop → ¬tailGrow → headGrow →
      (s.queued m r = true → t = s) ∧
      (s.queued m r = false → t = { s with queue := s.queue ++ [⟨m, r, .head, 0⟩], link := told 3#8 0#8 })) ∧
    (¬tailDrop → ¬headDrop → ¬tailGrow → ¬headGrow → t = s) ∧
    ∀ m' r', ¬(m' = m ∧ r' = r) → t.path m' r' = s.path m' r'

/-- GRANT: a valid request at the head with room receives the head segment of the free list, zeroed, at the tail of
its chain, or before its first with the lead delay lowered by 64 (R68, R94, R95); where the free list is empty, the
VALID slot without the exporting mark whose record has the smallest sequence number is reclaimed first, and the grant
takes the first segment it releases (R96). Every other segment keeps its coefficients, and but for those a reclamation
releases its energy. REQUEST_TIMEOUT: a head request blocked by capacity with its wait count at
125 is removed, and POOL_EXHAUSTED is counted (R98). Granting and waiting: a head blocked by capacity, or by a free list
that no slot can fill, waits one frame more or is removed at 125, and an invalid head is removed (R94, R98). Minimum
fill queues a TAIL request for each enabled path below its `min_segs` that has none, in ascending path number (R78). The
free count is tested against POOL_LOW, with one POOL report when it falls below (R101, R102). Each grant, removal and
timeout raises its TAIL report (R102), a reclamation CKPT RECLAIMED before it (R124), and a timeout its fault with the
request and the block as detail bytes (R98). That the two commands open the frame end and take their own piece of it
alone, with the measures of the frame that its opening makes, is the model's choice (assumptions 4 and 19), as are the
queue length after the request has left it (assumption 15), the fault before the report (assumption 16) and the cause
REMOVED_MAX where two would hold (assumption 50). -/
def Obligations.GrantsAndTimeoutsServeTheQueue : Prop :=
  let tailBytes : GrowRequest → Byte → Byte → State → List Byte := fun q cause segments t =>
    byteOf q.m.val :: byteOf q.r.val :: cause :: segments :: byteOf (t.path q.m q.r).chain.length ::
      (le2 (t.path q.m q.r).lead ++ byteOf q.waited :: (le2 t.freeCount ++ le2 t.activeCount ++ le2 t.checkpointCount ++
        byteOf t.queue.length :: le4 t.frameCounter.toNat))
  (∀ (s : State) (q : GrowRequest) (rest : List GrowRequest) (i : SegIndex) (more : List SegIndex), s.phase = .due →
       s.queue = q :: rest → (s.path q.m q.r).chain.length < (s.path q.m q.r).maxSegs →
       (q.kind = .head → 64 ≤ (s.path q.m q.r).lead) → s.activeCount ≠ 2048 → s.freeList = i :: more →
       ∃ t, exec .grant s = .next t ∧
         t = { s.openFrame.modWork (fun w => { w with grantBegun := true }) with
           queue := rest, freeList := more, pool := t.pool, paths := t.paths, link := t.link } ∧
         (t.path q.m q.r).granted = true ∧
         (∀ j, j ≠ i → j ∉ (s.path q.m q.r).chain → t.segment j = s.openFrame.segment j) ∧
         (∀ j, j ≠ i → t.segment j = { s.openFrame.segment j with owner := (t.segment j).owner }) ∧
         (s.chainsApart → i ∉ (s.path q.m q.r).chain → ∀ p j, (t.path q.m q.r).chain[p]? = some j →
           (t.segment j).owner = .active q.m q.r p) ∧
         (t.segment i).coefs = zeroCoefs ∧ (t.segment i).energy = 0 ∧
         (q.kind = .tail → (t.path q.m q.r).chain = (s.path q.m q.r).chain ++ [i] ∧
           (t.path q.m q.r).lead = (s.path q.m q.r).lead) ∧
         (q.kind = .head → (t.path q.m q.r).chain = i :: (s.path q.m q.r).chain ∧
           (t.path q.m q.r).lead = (s.path q.m q.r).lead - 64) ∧
         t.link = s.link.report .tail (tailBytes q (if q.kind = .tail then 4#8 else 5#8) 1#8 t) ∧
         ∀ m r, ¬(m = q.m ∧ r = q.r) → (t.path m r).chain = (s.path m r).chain ∧ (t.path m r).lead = (s.path m r).lead) ∧
  (∀ (s : State) (q : GrowRequest) (rest : List GrowRequest) (m : MicLane) (k : SlotIndex) (rec : CkptRecord)
       (i : SegIndex) (more : List SegIndex), s.phase = .due →
       s.queue = q :: rest → (s.path q.m q.r).chain.length < (s.path q.m q.r).maxSegs →
       (q.kind = .head → 64 ≤ (s.path q.m q.r).lead) → s.activeCount ≠ 2048 → s.freeList = [] →
       (s.slot m k).tag = .valid → (s.slot m k).exporting = false → (s.slot m k).record = some rec →
       (∀ m' k', (s.slot m' k').tag = .valid → (s.slot m' k').exporting = false → ¬(m' = m ∧ k' = k) →
         ∃ rec', (s.slot m' k').record = some rec' ∧ rec.sequence.toNat < rec'.sequence.toNat) →
       rec.entries.flatMap PathEntry.chain = i :: more →
       ∃ t, exec .grant s = .next t ∧ t.queue = rest ∧ t.freeList = more ∧ (t.path q.m q.r).granted = true ∧
         t.slot m k = { s.slot m k with tag := .empty, record := none } ∧
         (∀ m' k', ¬(m' = m ∧ k' = k) → t.slot m' k' = s.slot m' k') ∧
         (t.segment i).coefs = zeroCoefs ∧ (t.segment i).energy = 0 ∧
         (∀ j, j ≠ i → (t.segment j).coefs = (s.segment j).coefs) ∧
         (∀ j, j ≠ i → j ∉ more → t.segment j = { s.openFrame.segment j with owner := (t.segment j).owner } ∧
           (j ∉ (s.path q.m q.r).chain → t.segment j = s.openFrame.segment j)) ∧
         (∀ j ∈ more, j ≠ i → j ∉ (s.path q.m q.r).chain → t.segment j = { s.segment j with owner := .free, energy := 0 }) ∧
         (s.chainsApart → i ∉ (s.path q.m q.r).chain → ∀ p j, (t.path q.m q.r).chain[p]? = some j →
           (t.segment j).owner = .active q.m q.r p) ∧
         (t.path q.m q.r).chain =
           (if q.kind = .tail then (s.path q.m q.r).chain ++ [i] else i :: (s.path q.m q.r).chain) ∧
         t.link = (s.link.report .ckpt (byteOf m.val :: byteOf k.val :: 2#8 :: 0#8 :: 0#8 ::
           (le4 rec.sequence.toNat ++ le2 (entriesSegments rec.entries) ++ byteOf rec.rollbacks ::
             le4 s.frameCounter.toNat))).report .tail (tailBytes q (if q.kind = .tail then 4#8 else 5#8) 1#8 t) ∧
         ∀ m' r', ¬(m' = q.m ∧ r' = q.r) →
           (t.path m' r').chain = (s.path m' r').chain ∧ (t.path m' r').lead = (s.path m' r').lead) ∧
  (∀ (s : State) (q : GrowRequest) (rest : List GrowRequest), s.phase = .due → s.queue = q :: rest →
       (s.path q.m q.r).chain.length < (s.path q.m q.r).maxSegs → (q.kind = .head → 64 ≤ (s.path q.m q.r).lead) →
       s.activeCount = 2048 → 125 ≤ q.waited →
       ∃ t, exec .requestTimeout s = .next t ∧
         t = { s.openFrame with queue := rest, link := t.link, phase := t.phase } ∧
         (t.faultEntry .poolExhausted).seen = true ∧
         (t.faultEntry .poolExhausted).count = min 65535 ((s.faultEntry .poolExhausted).count + 1) ∧
         t.link = (s.fault .poolExhausted none ⟨byteOf q.m.val, byteOf q.r.val, if q.kind = .tail then 0#8 else 1#8, 1#8⟩
           ).link.report .tail (tailBytes q 6#8 0#8 t) ∧
           ∀ m r, (t.path m r).chain = (s.path m r).chain) ∧
  (∀ (s : State) (q : GrowRequest) (rest : List GrowRequest), s.queue = q :: rest →
       (s.path q.m q.r).chain.length < (s.path q.m q.r).maxSegs → (q.kind = .head → 64 ≤ (s.path q.m q.r).lead) →
       s.activeCount = 2048 ∨ s.freeList = [] ∧ (∀ m k, (s.slot m k).tag ≠ .valid ∨ (s.slot m k).exporting = true) →
       (q.waited < 125 → s.serveQueue = { s with queue := { q with waited := q.waited + 1 } :: rest }) ∧
       (125 ≤ q.waited → s.serveQueue = { s with queue := rest, link := s.serveQueue.link, phase := s.serveQueue.phase } ∧
         (s.serveQueue.faultEntry .poolExhausted).count = min 65535 ((s.faultEntry .poolExhausted).count + 1) ∧
         s.serveQueue.link = (s.fault .poolExhausted none ⟨byteOf q.m.val, byteOf q.r.val,
           if q.kind = .tail then 0#8 else 1#8, if s.activeCount = 2048 then 1#8 else 0#8⟩).link.report .tail
             (tailBytes q 6#8 0#8 s.serveQueue))) ∧
  (∀ (s : State) (q : GrowRequest), s.queue = [q] →
       (s.path q.m q.r).maxSegs ≤ (s.path q.m q.r).chain.length ∨ q.kind = .head ∧ (s.path q.m q.r).lead < 64 →
       s.serveQueue = { s with queue := [], link := s.link.report .tail (tailBytes q
         (if (s.path q.m q.r).maxSegs ≤ (s.path q.m q.r).chain.length then 7#8 else 8#8) 0#8 { s with queue := [] }) }) ∧
  (∀ s : State, s.minFill = { s with
       queue := s.queue ++ (allPaths.filter fun p =>
           s.enabled p.1 p.2 && decide ((s.path p.1 p.2).chain.length < (s.path p.1 p.2).minSegs) &&
             !s.queue.any fun q => q.m == p.1 && q.r == p.2).map fun p => ⟨p.1, p.2, .tail, 0⟩ }) ∧
  (∀ (p : Params) (s : State),
       (p.poolLow ≤ s.freeCount → s.testPool p = { s with lowPool := false }) ∧
       (s.freeCount < p.poolLow → s.lowPool = true → s.testPool p = s) ∧
       (s.freeCount < p.poolLow → s.lowPool = false → s.testPool p = { s with
         lowPool := true
         link := s.link.report .tail ([255#8, 255#8, 10#8, 0#8, 0#8, 0#8, 0#8, 0#8] ++ le2 s.freeCount ++
           le2 s.activeCount ++ le2 s.checkpointCount ++ byteOf s.queue.length :: le4 s.frameCounter.toNat) }))

/-- SESSION_TIMEOUT: at the frame end where the idle count reaches 250 the session ends; an import's slot becomes
EMPTY and an export's mark is removed, with an IMAGE report TIMEOUT (R127, R135, R137); an import's segments become
FREE, and every other stands. COMMIT_APPLICATION: a staged
set whose countdown stands at 0 becomes the active set, and the staged set absent, with a COMMIT report COUNTDOWN
(R158). HOLD_SPAN_END: a countdown at 1 reaches 0, and every countdown above 0 is decremented with it (R163, R164). A
count that does not run out goes on: the idle count by one up, the commit countdown by one down, and a set staged at
this frame end is not counted (R127, R157, R158). That each command opens the frame end and takes its own piece of it
alone, with the measures that its opening makes, and that a command whose count does not run out changes nothing, is
the model's choice (assumptions 4 and 19). -/
def Obligations.CommitsSpansAndSessionsEnd : Prop :=
  (∀ (s : State) (x : Session), s.phase = .due → s.session = some x → 249 ≤ x.idle →
       ∃ t, exec .sessionTimeout s = .next t ∧
         t = { s.openFrame with
           session := none, mics := t.mics, pool := t.pool, freeList := t.freeList, link := t.link, phase := t.phase } ∧
         (∀ m k, ¬(m = x.m ∧ k = x.slot) → t.slot m k = s.slot m k) ∧
         (∀ m, t.mic m = { s.openFrame.mic m with
           ring := { (s.openFrame.mic m).ring with slots := (t.mic m).ring.slots } }) ∧
         (∀ i, x.kind = .exporting ∨ i ∉ x.entries.flatMap PathEntry.chain → t.segment i = s.openFrame.segment i) ∧
         (∀ i, x.kind = .importing → i ∈ x.entries.flatMap PathEntry.chain →
           t.segment i = { s.segment i with owner := .free, energy := 0 }) ∧
         (x.kind = .importing → (t.slot x.m x.slot).tag = .empty ∧ (t.slot x.m x.slot).record = none ∧
           t.freeList = s.freeList ++ x.entries.flatMap PathEntry.chain) ∧
         (x.kind = .exporting → t.slot x.m x.slot = { s.slot x.m x.slot with exporting := false } ∧
           t.freeList = s.freeList) ∧
         t.link = s.link.report .image (byteOf x.m.val :: byteOf x.slot.val :: (if x.kind = .exporting then 0#8 else 1#8) ::
           2#8 :: 0#8 :: byteOf x.cursor :: byteOf ((entriesSegments x.entries + 3) / 4) ::
             (le2 (entriesSegments x.entries) ++ le4 (match x.kind, (s.slot x.m x.slot).record with
               | .exporting, some rec => rec.sequence.toNat
               | .exporting, none => 0
               | .importing, _ => 0) ++ byteOf (t.slot x.m x.slot).tag.code :: le4 s.frameCounter.toNat))) ∧
  (∀ (s : State) (x : Staged), s.phase = .due → s.staged = some x → s.countdown = 0 →
       ∃ t, exec .commitApplication s = .next t ∧ t = { s.openFrame with
         active := x.params, staged := none, countdown := 0, phase := t.phase
         link := s.link.report .commit ((if x.origin = .paramCommit then 0#8 else 1#8) :: 0#8 :: byteOf x.latency ::
           byteOf x.clampByte :: le4 s.frameCounter.toNat) }) ∧
  (∀ (s : State) (m : MicLane), s.phase = .due → (s.mic m).holdSpan = 1 →
       ∃ t, exec (.holdSpanEnd m) s = .next t ∧ (t.mic m).holdSpan = 0 ∧
         t = { s.openFrame with drawn := t.drawn, mics := t.mics, inLines := t.inLines, phase := t.phase } ∧
         ∀ m', t.mic m' = { s.openFrame.mic m' with holdSpan := (s.mic m').holdSpan - 1 }) ∧
  (∀ s : State, s.phase = .due →
       (s.session = none ∨ (∃ x, s.session = some x ∧ x.idle < 249) → exec .sessionTimeout s = .next s) ∧
       (s.staged = none ∨ 0 < s.countdown → exec .commitApplication s = .next s) ∧
       (∀ m, (s.mic m).holdSpan ≠ 1 → exec (.holdSpanEnd m) s = .next s)) ∧
  (∀ (s : State) (w : FrameWork),
       (s.session = none → s.countIdle = s) ∧
       (∀ x, s.session = some x → x.idle < 249 → s.countIdle = { s with session := some { x with idle := x.idle + 1 } }) ∧
       (s.staged = none ∨ w.stagedNow = true → s.countCommit w = s) ∧
       (s.staged ≠ none → w.stagedNow = false → 0 < s.countdown →
         s.countCommit w = { s with countdown := s.countdown - 1 }))

/-- DIVERGENCE_EVENT: at the end of an adapting frame with Ee above Ed that brings the count to DIV_FRAMES, the count
returns to 0 and the microphone is rolled back, raising one ROLLBACK report and DIVERGENCE (R52, R114, R116). Of its
VALID and HELD slots with rollback count 0 the one whose record has the greatest sequence number is restored (R114).
Where a copy fits, the slot stands with its rollback count at 1; where only a move fits, the VALID slot's segments
become the chains and it is EMPTY; otherwise the microphone is zeroed in place, POOL_EXHAUSTED is counted, and the
slot stands with its count at 1 (R114, R117, R118). With no such slot every coefficient of the microphone's chains
becomes 0 in place, the settled flag is cleared, the smoothed energies are 0, its queued requests are removed, and its
chains, lead delays, trim step and slots are kept (R115). The report and the fault carry the slot, the outcome, the
count and the segments or the ERLE index the Talk Detector handed over (R116); that the report comes first is
assumption 16, and that the fault's byte for the rollback count is 0 after a move and with no slot, as the report's
is, is assumption 31. That the command opens the frame end and takes, beside its own piece, only what must come before
it, with the measures that the opening makes, is the model's choice (assumptions 4 and 19). -/
def Obligations.DivergenceRollsBack : Prop :=
  ∀ (s : State) (m : MicLane), s.phase = .due → m.val < s.layout.mics → (s.mic m).talk.mode = .live →
      (s.mic m).talk.talk = .far → (s.mic m).engine.sumD / 128 < (s.mic m).engine.sumE / 128 →
      s.active.divFrames ≤ (s.mic m).talk.divCount + 1 →
      ∃ t w, exec (.divergenceEvent m) s = .next t ∧ (t.mic m).talk.divCount = 0 ∧ t.phase = .taking w ∧
        w.rolledBack.get m = true ∧ (t.faultEntry .divergence).seen = true ∧
          (t.faultEntry .divergence).count = min 65535 ((s.faultEntry .divergence).count + 1) ∧
          (∀ m', m' ≠ m → t.mic m' = s.openFrame.mic m' ∧
            ∀ r, (t.path m' r).chain = (s.path m' r).chain ∧ (t.path m' r).lead = (s.path m' r).lead) ∧
          t.queue = s.queue.filter (fun q => q.m != m) ∧
          (let smoothed : Nat → Nat → Nat := fun old sum =>
             ((old : Int) + (((sum / 128 : Nat) : Int) - (old : Int)) / 8).toNat
           let handed := erleIndex (smoothed (s.mic m).talk.edSmooth (s.mic m).engine.sumD)
             (smoothed (s.mic m).talk.eeSmooth (s.mic m).engine.sumE)
           let told : Byte → Byte → Nat → Nat → Prop := fun slot outcome sequence rollbacks => ∃ l : Link,
             t.link = ({ s with link := l.report .rollback (byteOf m.val :: slot :: outcome ::
               (le4 sequence ++ byteOf rollbacks :: (le2 (t.micActive m) ++ le4 s.frameCounter.toNat))) }.fault .divergence
                 (some m) ⟨slot, outcome, byteOf rollbacks, byteOf handed⟩).link
           let chosen : SlotIndex → CkptRecord → Prop := fun k rec =>
             ((s.slot m k).tag = .valid ∨ (s.slot m k).tag = .held) ∧ (s.slot m k).record = some rec ∧ rec.rollbacks = 0 ∧
             ∀ k' rec', k' ≠ k → (s.slot m k').tag = .valid ∨ (s.slot m k').tag = .held →
               (s.slot m k').record = some rec' → rec'.rollbacks = 0 → rec'.sequence.toNat < rec.sequence.toNat
           let restored : CkptRecord → Prop := fun rec =>
             (t.mic m).ring.interval = 0 ∧ (t.mic m).trim = rec.trim ∧ (t.mic m).trimPending = rec.trim ∧
             (t.mic m).talk.erle = rec.erle ∧ (t.mic m).talk.settled = rec.settled ∧
             (t.mic m).talk.edSmooth = 0 ∧ (t.mic m).talk.eeSmooth = 0 ∧ (t.mic m).engine.sticky = rec.sticky
           let zeroed : Prop :=
             (∀ r, (t.path m r).chain = (s.path m r).chain ∧ (t.path m r).lead = (s.path m r).lead ∧
               (t.path m r).openGates = 0 ∧ (t.path m r).granted = false) ∧
             (∀ r, ∀ i ∈ (s.path m r).chain, (t.segment i).coefs = zeroCoefs) ∧
             (∀ i, (∀ r, i ∉ (s.path m r).chain) → t.segment i = s.openFrame.segment i) ∧ t.freeList = s.freeList ∧
             (t.mic m).talk.settled = false ∧ (t.mic m).talk.edSmooth = 0 ∧ (t.mic m).talk.eeSmooth = 0 ∧
             (t.mic m).talk.erle = handed ∧ (t.mic m).trim = (s.mic m).trim ∧
             (t.mic m).engine.sticky = (s.mic m).engine.sticky
           (∀ k rec, chosen k rec → s.restoreFits m rec = true → s.copyFits m rec = true →
             t.slot m k = { s.slot m k with record := some { rec with rollbacks := 1 } } ∧
             (∀ k', k' ≠ k → t.slot m k' = s.slot m k') ∧ restored rec ∧ told (byteOf k.val) 0#8 rec.sequence.toNat 1 ∧
             ((rec.entries.map PathEntry.r).Nodup → ∀ e ∈ rec.entries, s.enabled m e.r = true →
               (t.path m e.r).chain.length = e.chain.length ∧ (t.path m e.r).lead = e.lead)) ∧
           (∀ k rec, chosen k rec → s.restoreFits m rec = true → s.copyFits m rec = false → (s.slot m k).tag = .valid →
             (s.slot m k).exporting = false →
             t.slot m k = { s.slot m k with tag := .empty, record := none } ∧
             (∀ k', k' ≠ k → t.slot m k' = s.slot m k') ∧ restored rec ∧ told (byteOf k.val) 1#8 rec.sequence.toNat 0 ∧
             t.freeList = s.freeList ++ allRefs.flatMap (fun r => (s.path m r).chain) ++
               (rec.entries.filter fun e => !s.enabled m e.r).flatMap PathEntry.chain ∧
             (∀ r, (∀ e ∈ rec.entries, s.enabled m r = true → e.r ≠ r) →
               (t.path m r).chain = [] ∧ (t.path m r).lead = 0) ∧
             ((rec.entries.map PathEntry.r).Nodup → ∀ e ∈ rec.entries, s.enabled m e.r = true →
               (t.path m e.r).chain = e.chain ∧ (t.path m e.r).lead = e.lead)) ∧
           (∀ k rec, chosen k rec → s.restoreFits m rec = false ∨
               s.copyFits m rec = false ∧ ((s.slot m k).tag = .held ∨ (s.slot m k).exporting = true) →
             t.slot m k = { s.slot m k with record := some { rec with rollbacks := 1 } } ∧
             (∀ k', k' ≠ k → t.slot m k' = s.slot m k') ∧ zeroed ∧ (t.mic m).ring.interval = 0 ∧
             (t.faultEntry .poolExhausted).count = min 65535 ((s.faultEntry .poolExhausted).count + 1) ∧
             told (byteOf k.val) 2#8 rec.sequence.toNat 1) ∧
           ((∀ k rec, (s.slot m k).tag = .valid ∨ (s.slot m k).tag = .held → (s.slot m k).record = some rec →
               rec.rollbacks ≠ 0) →
             zeroed ∧ (∀ k, t.slot m k = s.slot m k) ∧
             (t.mic m).ring.interval = (s.openFrame.mic m).ring.interval ∧ told 255#8 3#8 0 0))

/-- What no event of a frame end changes when it is commanded by itself: the engine state, the layout, the frame
counter and position, the samples carried, the shadow set, the push sequence, the low-pool flag and the output
lines; the link's slots, masks, DROPPED flag and SPI_SDO; every gain and gate; and a microphone's suppression
gain, generator, mutes and sources (R4, R5, R32, R106, R139, R141, R149, R168; assumption 4). -/
def Obligations.EventsKeepTheRest : Prop :=
  ∀ (i : Instr) (s : State),
    i = .refLost ∨ i = .evaluationFrameEnd ∨ i = .grant ∨ i = .requestTimeout ∨ i = .sessionTimeout ∨
      i = .commitApplication ∨ (∃ m, i = .holdSpanEnd m) ∨ (∃ m, i = .divergenceEvent m) →
    ∃ t, exec i s = .next t ∧
      t = { s with
        drawn := t.drawn, phase := t.phase, port := t.port, refs := t.refs, mics := t.mics, paths := t.paths,
        pool := t.pool, freeList := t.freeList, queue := t.queue, rebalance := t.rebalance, session := t.session,
        staged := t.staged, countdown := t.countdown, active := t.active, inLines := t.inLines, link := t.link } ∧
      t.link.request = s.link.request ∧ t.link.reply = s.link.reply ∧ t.link.masks = s.link.masks ∧
      t.link.dropped = s.link.dropped ∧ t.link.sdo = s.link.sdo ∧
      (∀ m r, (t.path m r).gain = (s.path m r).gain ∧ (t.path m r).gate = (s.path m r).gate) ∧
      (∀ m, (t.mic m).out.gain = (s.mic m).out.gain ∧ (t.mic m).out.generator = (s.mic m).out.generator ∧
        (t.mic m).out.mute = (s.mic m).out.mute ∧ (t.mic m).out.mutePending = (s.mic m).out.mutePending ∧
        (t.mic m).out.lineMute = (s.mic m).out.lineMute ∧ (t.mic m).out.source = (s.mic m).out.source ∧
        (t.mic m).out.sourcePending = (s.mic m).out.sourcePending)

/-! ## Engine states, layout and parameter sets (Chapter 9) -/

/-- ENGINE.RUN accepted in PARKED (R150): RUNNING, frame 0 from its first sample, histories, slips, gains, gates, frame
energies, talk states and counts cleared, modes derived; and everything else kept, the smoothed energies, pending trim
steps, freeze and halt flags, rings, fault table, line entries and the samples handed over among it. That every output
line shows its source from the acceptance on is assumption 17, and the sample position and the lane that a clear
saturation mark holds are the model's choice (assumption 61). In RUNNING it changes nothing. -/
def Obligations.EngineRunStartsFrameZero : Prop :=
  ∀ (tag : Byte) (s : State), s.accepting →
      (s.engine = .running →
        ∃ t, exec (.engineRun tag) s = .next t ∧ t = { s with link := t.link } ∧
          s.repliedTo ⟨0x08#8, tag, []⟩ (0#8 :: 1#8 :: le4 s.frameCounter.toNat) t) ∧
      (s.engine = .parked →
        ∃ t, exec (.engineRun tag) s = .next t ∧
          t = { s with
            engine := .running, phase := .sampling, frameCounter := 0#32, position := 0, port := t.port, refs := t.refs
            fillsShown := t.fillsShown, mics := t.mics, paths := t.paths, rebalance := 0, lowPool := false
            inLines := t.inLines, outLines := t.outLines, link := t.link } ∧
          s.repliedTo ⟨0x08#8, tag, []⟩ [0#8, 1#8, 0#8, 0#8, 0#8, 0#8] t ∧
          t.port = { s.port with
            silence := 0, arrived := false, underrunTally := 0, overrunTally := 0, underruns := 0, overruns := 0 } ∧
          (∀ r k, (t.ref r).fill = 0 ∧ (t.ref r).power = 0 ∧ (t.ref r).level = 0 ∧ (t.ref r).sumSquares = 0 ∧
            (t.ref r).ring.get k = 0 ∧ t.fillsShown.get r = 0) ∧
          (∀ m r, t.path m r =
            { s.path m r with gain := 0, gate := false, openGates := 0, granted := false }) ∧
          (∀ m, t.mic m = { s.mic m with
            engine := ⟨0, 0, 0, 0, 0, 0, .clear, .clear, .clear, (s.mic m).engine.sticky⟩
            talk := { (s.mic m).talk with
              talk := .quiet, nearHang := 0, farHang := 0, divCount := 0, mode := (t.mic m).talk.mode }
            out := { (s.mic m).out with gain := 32767 } } ∧
            (m.val < s.layout.mics → (t.mic m).talk.mode =
              if (s.mic m).talk.halt then .halted
              else if (s.mic m).talk.freeze || (s.mic m).talk.levelHold || decide (0 < (s.mic m).holdSpan) then .frozen
              else .live)) ∧
          (∀ k, t.inLines.get k = { s.inLines.get k with lastFrame := (s.inLines.get k).last }) ∧
          (∀ k, t.outLines.get k = { s.outLines.get k with value := (t.outLines.get k).value }) ∧ t.outLinesShow)

/-- ENGINE.PARK accepted in RUNNING (R151): PARKED with every gate closed, the growth queue empty, no set staged, no
hold span, no line cause and no fault clear pending; in PARKED it changes nothing. A pending reset is taken (step 2); a
pending trim step becomes the current one and pending limits are taken, a chain longer than the new `max_segs` cut (step
3); then, where nothing else is pending that moves segments, a pending recall is taken as a restore, a pending push
makes its record with the trim step that step 3 has left, and a pending slot command acts (step 4); a staged set becomes
the active set (step 5). The pending entries of input and output lines become current (R166), and every output line
shows its source as the park leaves it (R168). The partial frame's sums of squares and saturation marks are discarded
(step 1), the staged set's COMMIT report carries its origin, the cause PARK, its latency, its cross-clamp byte and the
frame counter (R158) and no report follows it, and the mode of every configured microphone is derived from the causes
left (step 7, R56). Where nothing is pending but host flags, sources, line entries and a staged set, the rest of the
part stands, and that report is the only one. Nothing pending is left. -/
def Obligations.EngineParkTakesWhatIsPending : Prop :=
  ∀ (tag : Byte) (s : State), s.accepting →
      (s.engine = .parked →
        ∃ t, exec (.enginePark tag) s = .next t ∧ t = { s with link := t.link } ∧
          s.repliedTo ⟨0x09#8, tag, []⟩ (0#8 :: 0#8 :: le4 s.frameCounter.toNat) t) ∧
      (s.engine = .running →
        ∃ t, exec (.enginePark tag) s = .next t ∧ t.engine = .parked ∧ t.phase = .sampling ∧ t.queue = [] ∧
          t.staged = none ∧ t.link.clear = none ∧ t.layout = s.layout ∧
          (∀ m r, (t.path m r).gate = false) ∧
          (∀ m, (t.mic m).holdSpan = 0 ∧ (t.mic m).talk.levelHold = false ∧ (t.mic m).out.lineMute = false ∧
            (t.mic m).talk.freeze = (t.mic m).talk.freezePending ∧ (t.mic m).out.mute = (t.mic m).out.mutePending ∧
            (t.mic m).out.source = (t.mic m).out.sourcePending) ∧
          (∀ k, (t.inLines.get k).latch = false ∧ (t.inLines.get k).pulse = false ∧ (t.inLines.get k).active = false ∧
            (t.inLines.get k).pendingEntry = none) ∧
          (∀ k, (t.outLines.get k).pendingEntry = none) ∧ t.outLinesShow ∧
          (s.phase = .sampling →
            (∀ k, (t.inLines.get k).entry = (s.inLines.get k).pendingEntry.getD (s.inLines.get k).entry) ∧
            ∀ k, (t.outLines.get k).entry = (s.outLines.get k).pendingEntry.getD (s.outLines.get k).entry) ∧
          (s.phase = .sampling → t.frameCounter = s.frameCounter ∧ t.port = s.port ∧
            t.shadow = s.shadow ∧ t.rebalance = s.rebalance ∧ t.lowPool = s.lowPool ∧ t.outNow = s.outNow ∧
            t.outNext = s.outNext ∧ ∀ r, t.ref r = { s.ref r with sumSquares := 0 }) ∧
          (∃ c, t.link.reply = some ⟨0x89#8, tag, 0#8 :: 0#8 :: c⟩ ∧ c = le4 t.frameCounter.toNat) ∧
          (∀ m, (t.mic m).engine.sumD = 0 ∧ (t.mic m).engine.sumY = 0 ∧ (t.mic m).engine.sumE = 0 ∧
            ∀ x : Mark, x = (t.mic m).engine.coefMark ∨ x = (t.mic m).engine.estMark ∨ x = (t.mic m).engine.errMark →
              x.raised = false ∧ x.tally = 0) ∧
          (∀ m : MicLane, m.val < s.layout.mics → t.modeFollows m) ∧ (s.phase = .sampling → s.derivesModes t) ∧
          (s.phase = .sampling → ∀ x, s.staged = some x →
            let payload := [byteOf x.origin.code, 1#8, byteOf x.latency, byteOf x.clampByte] ++ le4 s.frameCounter.toNat
            t.countdown = 0 ∧
            (s.link.masks.getLsbD 8 = true → t.link.flags.getLsbD 8 = true) ∧
            (s.link.masks.getLsbD 8 = false → t.link.reports.getLast? = some ⟨0x78#8, 0#8, payload⟩ ∨
              32 ≤ t.link.reports.length ∧ t.link.flags.getLsbD 8 = true)) ∧
          (s.phase = .sampling → s.link.clear = none →
            (∀ m, (s.mic m).resetPending = false ∧ (s.mic m).trim = (s.mic m).trimPending ∧
              (s.mic m).ring.recallPending = none ∧ (s.mic m).ring.pushPending = false ∧
              (∀ k, (s.slot m k).command = none) ∧ ∀ r, (s.path m r).limits = none) →
            t = { s with
              engine := .parked, refs := t.refs, fillsShown := t.fillsShown, mics := t.mics, paths := t.paths
              queue := [], staged := none, countdown := t.countdown, active := t.active, inLines := t.inLines
              outLines := t.outLines, link := t.link } ∧
            (∀ m r, t.path m r = { s.path m r with gate := false }) ∧
            (∀ m, t.mic m = { s.mic m with
              engine := { (s.mic m).engine with
                sumD := 0, sumY := 0, sumE := 0, coefMark := (t.mic m).engine.coefMark
                estMark := (t.mic m).engine.estMark, errMark := (t.mic m).engine.errMark }
              talk := { (s.mic m).talk with
                freeze := (s.mic m).talk.freezePending, levelHold := false, mode := (t.mic m).talk.mode }
              out := { (s.mic m).out with
                mute := (s.mic m).out.mutePending, lineMute := false, source := (s.mic m).out.sourcePending }
              holdSpan := 0 }) ∧
            (∀ r, t.fillsShown.get r = (s.ref r).fill) ∧
            (s.staged = none → s.repliedTo ⟨0x09#8, tag, []⟩ (0#8 :: 0#8 :: le4 s.frameCounter.toNat) t) ∧
            ∀ x, s.staged = some x →
              let payload := [byteOf x.origin.code, 1#8, byteOf x.latency, byteOf x.clampByte] ++ le4 s.frameCounter.toNat
              State.repliedTo ⟨0x09#8, tag, []⟩ (0#8 :: 0#8 :: le4 s.frameCounter.toNat)
                { s with link := s.link.report .commit payload } t) ∧
          (∀ m r, (t.path m r).limits = none) ∧
          (∀ m : MicLane, m.val < s.layout.mics →
            (t.mic m).resetPending = false ∧ (t.mic m).trim = (t.mic m).trimPending ∧
            (t.mic m).ring.pushPending = false ∧ (t.mic m).ring.recallPending = none ∧
            ∀ k, (t.slot m k).command = none) ∧
          (s.phase = .sampling →
            (s.staged = none → t.active = s.active) ∧ (∀ x, s.staged = some x → t.active = x.params) ∧
            (∀ m : MicLane, m.val < s.layout.mics → (s.mic m).resetPending = true →
              (t.mic m).engine.sticky = .clear ∧ (t.mic m).talk.talk = .quiet ∧ (t.mic m).talk.settled = false ∧
              (t.mic m).talk.erle = 0 ∧ (t.mic m).talk.halt = false ∧ (t.mic m).out.floor = 2 ^ 30 ∧
              (t.mic m).trim = (s.mic m).trimPending ∧
              (∀ k, (s.slot m k).tag = .valid → (s.slot m k).record.isSome = true →
                (t.slot m k).tag = .empty ∧ (t.slot m k).record = none) ∧
              ∀ r, (t.path m r).minSegs = (s.path m r).minSegs ∧ (t.path m r).maxSegs = (s.path m r).maxSegs) ∧
            (∀ m : MicLane, m.val < s.layout.mics → (s.mic m).resetPending = false →
              (∀ r x, (s.path m r).limits = some x →
                (t.path m r).minSegs = x.minSegs ∧ (t.path m r).maxSegs = x.maxSegs ∧ (t.path m r).pinned = x.pinned ∧
                (t.path m r).chain.length ≤ x.maxSegs ∧
                ((s.mic m).ring.recallPending = none →
                  (t.path m r).chain = (s.path m r).chain.take x.maxSegs ∧
                  (t.path m r).lead = x.lead.getD (s.path m r).lead)) ∧
              ((s.mic m).ring.recallPending = none → (t.mic m).trim = (s.mic m).trimPending) ∧
              ((s.mic m).ring.recallPending = none → (s.mic m).ring.pushPending = false →
                ∀ k, ((s.slot m k).command = none → t.slot m k = s.slot m k) ∧
                  ((s.slot m k).command = some .hold → (s.slot m k).tag = .valid →
                    t.slot m k = { s.slot m k with tag := .held, command := none }) ∧
                  ((s.slot m k).command = some .release → (s.slot m k).tag = .held →
                    t.slot m k = { s.slot m k with tag := .valid, command := none }) ∧
                  ((s.slot m k).command = some .discard → (s.slot m k).tag = .valid ∨ (s.slot m k).tag = .held →
                    (s.slot m k).exporting = false → (s.slot m k).record.isSome = true →
                    t.slot m k = { s.slot m k with tag := .empty, record := none, command := none }))) ∧
            (∀ m : MicLane, m.val < s.layout.mics →
              (∀ m', (s.mic m').resetPending = false ∧ ∀ r, (s.path m' r).limits = none) →
              (∀ m', m' ≠ m → (s.mic m').ring.recallPending = none ∧ (s.mic m').ring.pushPending = false) →
              (∀ k rec, (s.mic m).ring.recallPending = some k → (s.mic m).ring.pushPending = false →
                (s.slot m k).tag = .valid ∨ (s.slot m k).tag = .held → (s.slot m k).record = some rec →
                s.restoreFits m rec = true → s.copyFits m rec = true →
                (t.mic m).trim = rec.trim ∧ (t.mic m).talk.erle = rec.erle ∧ (t.mic m).talk.settled = rec.settled ∧
                (s.link.clear = none → (t.mic m).engine.sticky = rec.sticky) ∧
                ((rec.entries.map PathEntry.r).Nodup → ∀ e ∈ rec.entries, s.enabled m e.r = true →
                  (t.path m e.r).chain.length = min e.chain.length (s.path m e.r).maxSegs ∧
                  (t.path m e.r).lead = e.lead)) ∧
              ((s.mic m).ring.recallPending = none → (s.mic m).ring.pushPending = true → (s.mic m).talk.halt = false →
                (∀ k, (s.faultEntry k).severity = .advisory) →
                s.slot m ((s.mic m).ring.top + 1) = Slot.blank → s.micActive m ≤ s.freeCount →
                ∃ rec, t.slot m ((s.mic m).ring.top + 1) = ⟨.valid, false, some rec, none⟩ ∧
                  rec.sequence = t.pushSequence ∧ rec.trim = (s.mic m).trimPending ∧
                  (t.mic m).ring.top = (s.mic m).ring.top + 1 ∧
                  t.pushSequence = if s.pushSequence = 4294967295#32 then 1#32 else s.pushSequence + 1#32))))

/-- LAYOUT.SET (R152, R153): refused while RUNNING and out of range, refused with NO_ROOM where the free list would
not supply the new chains or the engine capacity would not hold them, and otherwise applied, with the free and ACTIVE
counts in its reply. A newly enabled path receives exactly the smaller of `initial_segs` and its `max_segs`, with lead
delay 0 and every coefficient 0 (R72), in ascending path number from the head of the free list (R63, R72). The steps
of R153: a session on a microphone that becomes unconfigured is aborted, an import's reservation released; such a
microphone's slots are discarded, HELD ones included, and its ring returns to its power-on values (R125); the chains
of paths that become disabled are released, in that order to the tail of the free list (R64); a change of the
reference count zeroes every history and S_r and flushes the FIFO (R13, R28); a lane that becomes configured or
unconfigured takes the values of R59, R148, R164 and R179 and keeps its sticky flags, trim steps, host mute flag and
output source (R14, R39, R148); and a path whose enable flag changes has its counts reset (R103). The segments
of the chains that stay, and of every slot that is kept, keep coefficients, energy and owner. Every output line shows its
source as the layout leaves it (R168; no frame end stands open in PARKED, as queueSound says and StepsKeepThePoolSound
keeps). -/
def Obligations.LayoutSetAppliesALayout : Prop :=
  ∀ (tag mics refs init : Byte) (mask : BitVec 64) (s : State), s.accepting →
      let f : Frame := ⟨0x0A#8, tag, mics :: refs :: (leBytes 8 mask.toNat ++ [init])⟩
      let l : Layout := ⟨mics.toNat, refs.toNat, mask, init.toNat⟩
      let inRange := 1 ≤ mics.toNat ∧ mics.toNat ≤ 16 ∧ 1 ≤ refs.toNat ∧ refs.toNat ≤ 4 ∧ 1 ≤ init.toNat ∧
        init.toNat ≤ 80
      (s.engine = .running →
        ∃ t, exec (.layoutSet tag mics refs mask init) s = .next t ∧ t = { s with link := t.link } ∧
          s.repliedTo f [2#8] t) ∧
      (s.engine = .parked → ¬inRange →
        ∃ t, exec (.layoutSet tag mics refs mask init) s = .next t ∧ t = { s with link := t.link } ∧
          s.repliedTo f [3#8] t) ∧
      (s.engine = .parked → inRange →
        s.freeCount + s.layoutReleased l + s.layoutDiscarded l < s.layoutNeeded l →
          ∃ t, exec (.layoutSet tag mics refs mask init) s = .next t ∧ t = { s with link := t.link } ∧
            s.repliedTo f
              (6#8 :: (le2 (s.layoutNeeded l) ++ le2 (s.freeCount + s.layoutReleased l + s.layoutDiscarded l) ++
                le2 (s.layoutNeeded l))) t) ∧
      (s.engine = .parked → inRange →
        s.layoutNeeded l ≤ s.freeCount + s.layoutReleased l + s.layoutDiscarded l →
        2048 < s.activeCount - s.layoutReleased l + s.layoutNeeded l →
          ∃ t, exec (.layoutSet tag mics refs mask init) s = .next t ∧ t = { s with link := t.link } ∧
            s.repliedTo f
              (6#8 :: (le2 (s.layoutNeeded l) ++ le2 (s.activeCount - s.layoutReleased l + s.layoutNeeded l) ++
                le2 2048)) t) ∧
      (s.engine = .parked → inRange →
        s.layoutNeeded l ≤ s.freeCount + s.layoutReleased l + s.layoutDiscarded l →
        s.activeCount - s.layoutReleased l + s.layoutNeeded l ≤ 2048 →
          ∃ t, exec (.layoutSet tag mics refs mask init) s = .next t ∧ t.layout = l ∧ t.engine = .parked ∧
            t.frameCounter = s.frameCounter ∧ t.queue = s.queue ∧ t.rebalance = s.rebalance ∧ t.staged = s.staged ∧
            t.inLines = s.inLines ∧ t.shadow = s.shadow ∧ t.active = s.active ∧ t.pushSequence = s.pushSequence ∧
            (s.phase = .sampling → s.refreshesLines t) ∧
            (∀ m r, s.enabled m r = true → l.enables m r = false → (t.path m r).chain = [] ∧ (t.path m r).lead = 0) ∧
            (∀ m r, s.enabled m r = true → l.enables m r = true →
              (t.path m r).chain = (s.path m r).chain ∧ (t.path m r).lead = (s.path m r).lead) ∧
            (∀ m r, s.enabled m r = false → l.enables m r = true → (t.path m r).lead = 0 ∧
              (t.path m r).chain.length ≤ min init.toNat (s.path m r).maxSegs ∧
              (∀ i ∈ (t.path m r).chain, (t.segment i).coefs = zeroCoefs ∧ (t.segment i).energy = 0) ∧
              (s.poolSound → (t.path m r).chain.length = min init.toNat (s.path m r).maxSegs)) ∧
            (s.layoutNeeded l ≤ s.freeCount →
              (allPaths.filter fun p => !s.enabled p.1 p.2 && l.enables p.1 p.2).flatMap
                  (fun p => (t.path p.1 p.2).chain) = s.freeList.take (s.layoutNeeded l)) ∧
            (let leaving := fun m : MicLane => decide (m.val < s.layout.mics ∧ mics.toNat ≤ m.val)
             let changing := fun m : MicLane => leaving m || decide (s.layout.mics ≤ m.val ∧ m.val < mics.toNat)
             let reserved : List SegIndex := match s.session with
               | some x => if leaving x.m = true ∧ x.kind = .importing then x.entries.flatMap PathEntry.chain else []
               | none => []
             let held := (allMics.filter leaving).flatMap fun m => allSlots.flatMap fun k =>
               match (s.slot m k).record with
               | some rec => rec.entries.flatMap PathEntry.chain
               | none => []
             let released := (allPaths.filter fun p => s.enabled p.1 p.2 && !l.enables p.1 p.2).flatMap fun p =>
               (s.path p.1 p.2).chain
             let list := s.freeList ++ (reserved ++ (held ++ released))
             t.session = (match s.session with
               | some x => if leaving x.m = true then none else some x
               | none => none) ∧
             (s.poolSound → t.freeList = list.drop (s.layoutNeeded l) ∧
               (allPaths.filter fun p => !s.enabled p.1 p.2 && l.enables p.1 p.2).flatMap
                 (fun p => (t.path p.1 p.2).chain) = list.take (s.layoutNeeded l)) ∧
             (let fresh := fun i : SegIndex => ∃ m r, s.enabled m r = false ∧ l.enables m r = true ∧ i ∈ (t.path m r).chain
              s.poolSound →
                (∀ i, i ∉ reserved ++ (held ++ released) → ¬fresh i → t.segment i = s.segment i) ∧
                (∀ m r, s.enabled m r = true → l.enables m r = true → ∀ i ∈ (s.path m r).chain,
                  t.segment i = s.segment i) ∧
                (∀ i ∈ reserved ++ (held ++ released), ¬fresh i →
                  t.segment i = { s.segment i with owner := .free, energy := 0 }) ∧
                ∀ m r, s.enabled m r = false → l.enables m r = true → ∀ p i, (t.path m r).chain[p]? = some i →
                  (t.segment i).owner = .active m r p) ∧
             (∀ m, leaving m = true → (t.mic m).ring.top = 3 ∧ (t.mic m).ring.interval = 0 ∧
               (t.mic m).ring.pushPending = false ∧ (t.mic m).ring.recallPending = none ∧
               (t.mic m).ring.restored = .clear ∧
               ∀ k, (t.slot m k).tag = .empty ∧ (t.slot m k).exporting = false ∧ (t.slot m k).record = none ∧
                 (t.slot m k).command = none) ∧
             (∀ m, leaving m = false → (t.mic m).ring = (s.mic m).ring) ∧
             (s.layout.refs = refs.toNat → t.port = s.port ∧ t.refs = s.refs) ∧
             (s.layout.refs ≠ refs.toNat → t.port = { s.port with fifo := [] } ∧
               ∀ r, (t.ref r).fill = 0 ∧ (t.ref r).power = 0 ∧ ∀ k, (t.ref r).ring.get k = 0) ∧
             (∀ m, changing m = true →
               (t.mic m).talk.talk = .quiet ∧ (t.mic m).talk.nearHang = 0 ∧ (t.mic m).talk.farHang = 0 ∧
               (t.mic m).talk.edSmooth = 0 ∧ (t.mic m).talk.eeSmooth = 0 ∧ (t.mic m).talk.erle = 0 ∧
               (t.mic m).talk.settled = false ∧ (t.mic m).talk.divCount = 0 ∧ (t.mic m).talk.freeze = false ∧
               (t.mic m).talk.freezePending = false ∧ (t.mic m).talk.halt = false ∧ (t.mic m).haltKinds = 0#16 ∧
               (t.mic m).out.gain = 32767 ∧ (t.mic m).out.floor = 2 ^ 30 ∧ (t.mic m).out.amplitude = 32768 ∧
               (t.mic m).out.generator = BitVec.ofNat 16 (0x0101 * (m.val + 1)) ∧
               (t.mic m).holdSpan = 0 ∧ (t.mic m).talk.levelHold = false ∧ (t.mic m).talk.mode = .live ∧
               (t.mic m).out.lineMute = false ∧ (t.mic m).out.source = (s.mic m).out.source ∧
               (t.mic m).out.sourcePending = (s.mic m).out.sourcePending ∧
               (t.mic m).resetPending = (s.mic m).resetPending ∧
               (t.mic m).out.mutePending = (s.mic m).out.mutePending ∧
               (t.mic m).trimPending = (s.mic m).trimPending) ∧
             (∀ m, changing m = false → (t.mic m).engine = (s.mic m).engine ∧ (t.mic m).out = (s.mic m).out ∧
               (t.mic m).holdSpan = (s.mic m).holdSpan ∧ (t.mic m).haltKinds = (s.mic m).haltKinds ∧
               (t.mic m).talk = { (s.mic m).talk with mode := (t.mic m).talk.mode }) ∧
             (∀ m r, s.enabled m r ≠ l.enables m r → (t.path m r).openGates = 0 ∧ (t.path m r).granted = false) ∧
             (∀ m r, s.enabled m r = l.enables m r → t.path m r = s.path m r)) ∧
            (∀ m, (t.mic m).trim = (s.mic m).trim ∧ (t.mic m).out.mute = (s.mic m).out.mute ∧
              (t.mic m).engine.sticky = (s.mic m).engine.sticky) ∧
            t.link.reply = some ⟨0x8A#8, tag, 0#8 :: (le2 t.freeCount ++ le2 t.activeCount)⟩)

/-- PARAM.SET writes the shadow set alone (R155): a numeric value is clamped to the nearer bound of its range, and an
id above 19, a code out of range or NOISE_TAPS without bit 15 is refused. -/
def Obligations.ParamSetWritesTheShadow : Prop :=
  ∀ (tag id : Byte) (value : BitVec 32) (s : State), s.accepting →
      let f : Frame := ⟨0x10#8, tag, id :: le4 value.toNat⟩
      (∀ lo hi, paramRange id.toNat = some (lo, hi) →
        ∃ t, exec (.paramSet tag id value) s = .next t ∧ t = { s with link := t.link, shadow := t.shadow } ∧
          t.shadow.value id.toNat = (if value.toNat < lo then lo else if hi < value.toNat then hi else value.toNat) ∧
          (∀ k, k ≠ id.toNat → t.shadow.value k = s.shadow.value k) ∧
          s.repliedTo f
            ((if lo ≤ value.toNat ∧ value.toNat ≤ hi then 0#8 else 1#8) :: id ::
              le4 (if value.toNat < lo then lo else if hi < value.toNat then hi else value.toNat)) t) ∧
      (id = 16#8 ∧ value.toNat ≤ 1 ∨ id = 17#8 ∧ 0x8000 ≤ value.toNat ∧ value.toNat ≤ 0xFFFF ∨
          id = 18#8 ∧ value.toNat ≤ 2 →
        ∃ t, exec (.paramSet tag id value) s = .next t ∧ t = { s with link := t.link, shadow := t.shadow } ∧
          t.shadow.value id.toNat = value.toNat ∧ (∀ k, k ≠ id.toNat → t.shadow.value k = s.shadow.value k) ∧
          s.repliedTo f (0#8 :: id :: le4 value.toNat) t) ∧
      (19 < id.toNat ∨ id = 16#8 ∧ 1 < value.toNat ∨ id = 17#8 ∧ (value.toNat < 0x8000 ∨ 0xFFFF < value.toNat) ∨
          id = 18#8 ∧ 2 < value.toNat →
        ∃ t, exec (.paramSet tag id value) s = .next t ∧ t = { s with link := t.link } ∧ s.repliedTo f [3#8] t)

/-- PARAM.GET returns one of the three sets, 84 bytes after the status, and changes nothing (R156). -/
def Obligations.ParamGetReturnsASet : Prop :=
  ∀ (tag selector : Byte) (s : State), s.accepting →
      ∃ t, exec (.paramGet tag selector) s = .next t ∧ t = { s with link := t.link } ∧
        (2 < selector.toNat → s.repliedTo ⟨0x11#8, tag, [selector]⟩ [3#8] t) ∧
        (selector = 2#8 → s.staged = none → s.repliedTo ⟨0x11#8, tag, [selector]⟩ [2#8] t) ∧
        (∀ p : Params,
          (selector = 0#8 ∧ p = s.shadow ∨ selector = 1#8 ∧ p = s.active ∨
            selector = 2#8 ∧ ∃ x, s.staged = some x ∧ p = x.params) →
          s.repliedTo ⟨0x11#8, tag, [selector]⟩
            (0#8 :: selector :: ((List.range 20).flatMap (fun id => le4 (p.value id)) ++
              [if s.staged = none then 0#8 else 1#8, byteOf s.countdown, if s.engine = .parked then 0#8 else 1#8])) t)

/-- PARAM.COMMIT stages the cross-clamped shadow set while RUNNING, with its origin, its latency and the cross-clamp
byte that the COMMIT report will carry, and applies it at once in PARKED, with one COMMIT report of the origin
PARAM.COMMIT, the cause PARKED, the latency, the cross-clamp byte and the frame counter as it stands; it is refused with
a latency above 7 or a set staged (R157, R158). That a latency above 7 is answered REFUSED_RANGE although a set is
staged too is the model's choice of which check comes first (assumption 11). -/
def Obligations.ParamCommitStagesTheShadow : Prop :=
  ∀ (tag latency : Byte) (s : State), s.accepting →
      let f : Frame := ⟨0x12#8, tag, [latency]⟩
      let c := (if s.shadow.tailShift - 1 < s.shadow.growShift then 1 else 0) +
        if s.shadow.rebalFrames < s.shadow.adaptMin then 2 else 0
      (7 < latency.toNat →
        ∃ t, exec (.paramCommit tag latency) s = .next t ∧ t = { s with link := t.link } ∧ s.repliedTo f [3#8] t) ∧
      (latency.toNat ≤ 7 → s.staged ≠ none →
        ∃ t, exec (.paramCommit tag latency) s = .next t ∧ t = { s with link := t.link } ∧ s.repliedTo f [4#8] t) ∧
      (latency.toNat ≤ 7 → s.staged = none →
        ∃ t, exec (.paramCommit tag latency) s = .next t ∧
          t.shadow = { s.shadow with
            growShift := min s.shadow.growShift (s.shadow.tailShift - 1)
            adaptMin := min s.shadow.adaptMin s.shadow.rebalFrames } ∧
          (s.engine = .running →
            t = { s with
              link := t.link, shadow := t.shadow, countdown := latency.toNat
              staged := some { params := t.shadow, origin := .paramCommit, latency := latency.toNat, clampByte := c } } ∧
            s.repliedTo f [if c = 0 then 0#8 else 1#8, byteOf c, latency, latency] t) ∧
          (s.engine = .parked →
            t = { s with link := t.link, shadow := t.shadow, active := t.shadow, staged := none, countdown := 0 } ∧
            State.repliedTo f [if c = 0 then 0#8 else 1#8, byteOf c, latency, 0#8]
              { s with link := s.link.report .commit ([0#8, 2#8, latency, byteOf c] ++ le4 s.frameCounter.toNat) } t))

/-! ## Microphone requests -/

/-- A request that names an unconfigured microphone lane is answered REFUSED_RANGE and changes nothing (R174), and so is
a checkpoint or image request that names a slot above 3, whatever its lane (R120 to R122, R129, R131). -/
def Obligations.UnconfiguredLanesAreRefused : Prop :=
  (∀ (i : Instr) (f : Frame) (tag mic a b c d : Byte) (lead : BitVec 16) (header : List Byte) (s : State), s.accepting →
      16 ≤ mic.toNat ∨ s.layout.mics ≤ mic.toNat → requestFrame? i = some f →
      i = .pathLimits tag mic a b c d lead ∨ i = .micOutput tag mic a ∨ i = .micReset tag mic ∨ i = .queryMic tag mic ∨
        i = .queryPath tag mic a ∨ i = .ckptPush tag mic ∨ i = .ckptHold tag mic a ∨ i = .ckptRelease tag mic a ∨ i = .ckptDiscard tag mic a ∨
        i = .ckptRecall tag mic a ∨ i = .imageExport tag mic a ∨
        (i = .imageImport tag mic a header ∧ 9 ≤ header.length ∧ header.length ≤ 21) →
      ∃ t, exec i s = .next t ∧ t = { s with link := t.link } ∧ s.repliedTo f [3#8] t) ∧
  ∀ (i : Instr) (f : Frame) (tag mic slot : Byte) (header : List Byte) (s : State), s.accepting → 3 < slot.toNat →
      requestFrame? i = some f →
      i = .ckptHold tag mic slot ∨ i = .ckptRelease tag mic slot ∨ i = .ckptDiscard tag mic slot ∨
        i = .ckptRecall tag mic slot ∨ i = .imageExport tag mic slot ∨
        (i = .imageImport tag mic slot header ∧ 9 ≤ header.length ∧ header.length ≤ 21) →
      ∃ t, exec i s = .next t ∧ t = { s with link := t.link } ∧ s.repliedTo f [3#8] t

/-- TRIM (R15 to R17): while RUNNING each pending step moves by its lane's code within 0..15 and nothing else moves; the
status is CLAMPED where a limit left a code without effect. In PARKED the pending steps are applied at once and the
coefficients of the lane's chains rescaled; segments in no chain of a microphone whose step changes stand, owners and
energies stand everywhere, and of the part nothing else changes but what a clamped rescale brings, the modes and the
output lines. A microphone with a clamped coefficient has its sticky flag COEF_SAT set and raises one COEF_SAT fault,
which counts in its entry alone, fills an empty first-fault record and halts where the kind is unmasked and HALTING
(R17, R38, R179); the mode of every configured microphone then follows its causes (R56), and every output line shows its
source (R168). That the first fault is the one of the lowest lane is the model's choice (assumption 34). A code above 2
or for an unconfigured lane refuses the whole. A frame end makes a pending step that differs the current one and
rescales the coefficients of the microphone's chains with the rounding of the set that governed the frame just ended; a
step that does not differ changes nothing (R16, R17, R149). -/
def Obligations.TrimMovesPendingSteps : Prop :=
  (∀ (m : MicLane) (w : FrameWork) (s : State), s.phase = .taking w → s.engine = .running →
      let t := s.runTask (.trim m) w
      ((s.mic m).trim = (s.mic m).trimPending → t = s) ∧
      ((s.mic m).trim ≠ (s.mic m).trimPending →
        t = { s with mics := t.mics, pool := t.pool } ∧
        t.mic m = { s.mic m with
          trim := (s.mic m).trimPending
          engine := { (s.mic m).engine with
            sticky := (t.mic m).engine.sticky, coefMark := (t.mic m).engine.coefMark } } ∧
        (∀ m', m' ≠ m → t.mic m' = s.mic m') ∧
        (∀ i, t.segment i = { s.segment i with coefs := (t.segment i).coefs } ∧
          ((∀ r, i ∉ (s.path m r).chain) → t.segment i = s.segment i)) ∧
        (s.chainsApart → ∀ (r : RefLane) (p : Nat) (i : SegIndex) (j : Fin 64), (s.path m r).chain[p]? = some i →
          (t.segment i).coefs.get j = max (-8388608) (min 8388607 (roundQuotient w.governing.rounding
            ((s.segment i).coefs.get j * trimGain (s.mic m).trimPending) (trimGain (s.mic m).trim)))))) ∧
  ∀ (tag : Byte) (codes : Vector Byte 16) (s : State), s.accepting →
      (s.engine = .running →
        (∀ m : MicLane, (codes.get m).toNat ≤ 2 ∧ (codes.get m = 0#8 ∨ m.val < s.layout.mics)) →
        ∃ t, exec (.trim tag codes) s = .next t ∧ t = { s with link := t.link, mics := t.mics } ∧
          (∀ m, t.mic m = { s.mic m with
            trimPending :=
              if codes.get m = 1#8 then min 15 ((s.mic m).trimPending + 1)
              else if codes.get m = 2#8 then (s.mic m).trimPending - 1
              else (s.mic m).trimPending }) ∧
          s.repliedTo ⟨0x18#8, tag, codes.toList⟩
            ((if ∃ m, codes.get m = 1#8 ∧ (s.mic m).trimPending = 15 ∨ codes.get m = 2#8 ∧ (s.mic m).trimPending = 0
                then 1#8 else 0#8) ::
              allMics.map fun m => byteOf (t.mic m).trimPending) t) ∧
      (s.engine = .parked → s.phase = .sampling →
        (∀ m : MicLane, (codes.get m).toNat ≤ 2 ∧ (codes.get m = 0#8 ∨ m.val < s.layout.mics)) →
        ∃ t u, ∃ hit : MicLane → Bool,
          exec (.trim tag codes) s = .next t ∧ exec (.trim tag codes) { s with engine := .running } = .next u ∧
          t = { s with link := t.link, mics := t.mics, pool := t.pool, outLines := t.outLines } ∧
          (∀ m, (t.mic m).trimPending = (u.mic m).trimPending ∧
            (m.val < s.layout.mics → (t.mic m).trim = (t.mic m).trimPending) ∧
            (s.layout.mics ≤ m.val → (t.mic m).trim = (s.mic m).trim)) ∧
          s.refreshesLines t ∧ s.derivesModes t ∧
          (∀ i, t.segment i = { s.segment i with coefs := (t.segment i).coefs } ∧
            ((∀ m r, i ∈ (s.path m r).chain → (t.mic m).trim = (s.mic m).trim) → t.segment i = s.segment i)) ∧
          (s.chainsApart →
            let scaled := fun (m : MicLane) (w : Int) =>
              roundQuotient s.active.rounding (w * trimGain (t.mic m).trim) (trimGain (s.mic m).trim)
            (∀ (m : MicLane) (r : RefLane) (p : Nat) (i : SegIndex) (j : Fin 64),
              m.val < s.layout.mics → (s.path m r).chain[p]? = some i → (t.mic m).trim ≠ (s.mic m).trim →
              (t.segment i).coefs.get j = max (-8388608) (min 8388607 (scaled m ((s.segment i).coefs.get j)))) ∧
            ∀ m, hit m = true ↔ (t.mic m).trim ≠ (s.mic m).trim ∧ ∃ (r : RefLane) (i : SegIndex) (j : Fin 64),
              i ∈ (s.path m r).chain ∧ (scaled m ((s.segment i).coefs.get j) < -8388608 ∨
                8388607 < scaled m ((s.segment i).coefs.get j))) ∧
          (let e := s.faultEntry .coefSat
           let hits := allMics.filter hit
           let halting := !e.masked && e.severity == .halting
           (∀ m, hit m = true → (t.mic m).trim ≠ (s.mic m).trim) ∧
           (∀ m, t.mic m = { s.mic m with
             trim := (t.mic m).trim
             trimPending := (t.mic m).trimPending
             engine := { (s.mic m).engine with
               sticky := { (s.mic m).engine.sticky with coef := (s.mic m).engine.sticky.coef || hit m } }
             talk := { (s.mic m).talk with
               halt := (s.mic m).talk.halt || (halting && hit m), mode := (t.mic m).talk.mode }
             haltKinds := if halting && hit m then (s.mic m).haltKinds ||| 1#16 else (s.mic m).haltKinds }) ∧
           t.link = { u.link with
             faults := t.link.faults, first := t.link.first, reports := t.link.reports, flags := t.link.flags } ∧
           (∀ k, k ≠ .coefSat → t.faultEntry k = s.faultEntry k) ∧
           t.faultEntry .coefSat = { e with
             seen := e.seen || !hits.isEmpty
             count := if hits = [] then e.count else min 65535 (e.count + hits.length)
             mics := (t.faultEntry .coefSat).mics } ∧
           (∀ m : MicLane, (t.faultEntry .coefSat).mics.getLsbD m.val = (e.mics.getLsbD m.val || hit m)) ∧
           (hits = [] ∨ e.masked = true →
             t.link.first = s.link.first ∧ t.link.reports = s.link.reports ∧ t.link.flags = s.link.flags) ∧
           (∀ x, s.link.first = some x → t.link.first = some x) ∧
           ∀ m, hits.head? = some m → e.masked = false → s.link.first = none →
             ∃ n, t.link.first = some ⟨.coefSat, m.val, s.frameCounter, ⟨255#8, 255#8, byteOf n, byteOf (n / 256)⟩⟩)) ∧
      ((∃ m : MicLane, 2 < (codes.get m).toNat ∨ codes.get m ≠ 0#8 ∧ s.layout.mics ≤ m.val) →
        ∃ t, exec (.trim tag codes) s = .next t ∧ t = { s with link := t.link } ∧
          s.repliedTo ⟨0x18#8, tag, codes.toList⟩ [3#8] t)

/-- PATH.LIMITS (R74 to R76): a request out of range, or for a path that is not enabled, is refused; an accepted one
becomes the path's pending limits while RUNNING and is taken at once in PARKED, where the excess of the chain over
`max_segs` is released with one TAIL report LIMIT (R102), and no report where there is none. That the reply in PARKED
carries the chain length before that cut, and where no lead delay is carried the one standing at acceptance, is the
model's choice (assumption 24). A frame end takes the pending limits of every path, with the lead delay where one is
carried (R75, R77), and cuts every chain that stands above its `max_segs`, each with one TAIL report LIMIT (R76, R102);
that each of the two covers all paths at once is assumption 42. A cut leaves the segments it does not release as they
are. -/
def Obligations.PathLimitsBecomePending : Prop :=
  (∀ (w : FrameWork) (s : State), s.phase = .taking w →
      let t := s.runTask .limits w
      t = { s with paths := t.paths } ∧
      ∀ m r, ((s.path m r).limits = none → t.path m r = s.path m r) ∧
        ∀ x, (s.path m r).limits = some x → t.path m r = { s.path m r with
          minSegs := x.minSegs, maxSegs := x.maxSegs, pinned := x.pinned, lead := x.lead.getD (s.path m r).lead
          limits := none }) ∧
  (∀ (w : FrameWork) (s : State), s.phase = .taking w →
      let t := s.runTask .cuts w
      let cut := allPaths.flatMap fun p => (s.path p.1 p.2).chain.drop (s.path p.1 p.2).maxSegs
      t = { s with link := t.link, paths := t.paths, pool := t.pool, freeList := s.freeList ++ cut } ∧
      (∀ m r, t.path m r = { s.path m r with chain := (s.path m r).chain.take (s.path m r).maxSegs }) ∧
      (∀ i, t.segment i = if i ∈ cut then { s.segment i with owner := .free, energy := 0 } else s.segment i) ∧
      (cut = [] → t = s) ∧
      ∀ m r, (s.path m r).maxSegs < (s.path m r).chain.length →
        (∀ m' r', ¬(m' = m ∧ r' = r) → (s.path m' r').chain.length ≤ (s.path m' r').maxSegs) →
        t.link = s.link.report .tail (byteOf m.val :: byteOf r.val :: 9#8 ::
          byteOf ((s.path m r).chain.length - (s.path m r).maxSegs) :: byteOf (s.path m r).maxSegs ::
            (le2 (s.path m r).lead ++ 0#8 :: (le2 t.freeCount ++ le2 t.activeCount ++ le2 t.checkpointCount ++
              byteOf s.queue.length :: le4 s.frameCounter.toNat)))) ∧
  (∀ (tag mic ref minSegs maxSegs flags : Byte) (lead : BitVec 16) (s : State), s.accepting →
      (∀ (m : MicLane) (r : RefLane), mic = byteOf m.val → ref = byteOf r.val → s.enabled m r = false) →
      ∃ t, exec (.pathLimits tag mic ref minSegs maxSegs flags lead) s = .next t ∧ t = { s with link := t.link } ∧
        s.repliedTo ⟨0x19#8, tag, mic :: ref :: minSegs :: maxSegs :: flags :: le2 lead.toNat⟩ [3#8] t) ∧
  ∀ (tag minSegs maxSegs flags : Byte) (lead : BitVec 16) (m : MicLane) (r : RefLane) (s : State), s.accepting →
      s.enabled m r = true →
      let bad := minSegs.toNat < 1 ∨ maxSegs.toNat < minSegs.toNat ∨ 80 < maxSegs.toNat ∨ 4 ≤ flags.toNat ∨
        flags.getLsbD 1 = true ∧ 2047 < lead.toNat
      (bad → ∃ t, exec (.pathLimits tag (byteOf m.val) (byteOf r.val) minSegs maxSegs flags lead) s = .next t ∧
        t = { s with link := t.link } ∧
        s.repliedTo ⟨0x19#8, tag, byteOf m.val :: byteOf r.val :: minSegs :: maxSegs :: flags :: le2 lead.toNat⟩
          [3#8] t) ∧
      (1 ≤ minSegs.toNat → minSegs.toNat ≤ maxSegs.toNat → maxSegs.toNat ≤ 80 → flags.toNat < 4 →
      (flags.getLsbD 1 = true → lead.toNat ≤ 2047) →
      ∃ t, exec (.pathLimits tag (byteOf m.val) (byteOf r.val) minSegs maxSegs flags lead) s = .next t ∧
        (s.engine = .running →
          t = { s with link := t.link, paths := t.paths } ∧
          t.path m r = { s.path m r with
            limits := some ⟨minSegs.toNat, maxSegs.toNat, flags.getLsbD 0,
              if flags.getLsbD 1 then some lead.toNat else none⟩ } ∧
          ∀ m' r', ¬(m' = m ∧ r' = r) → t.path m' r' = s.path m' r') ∧
        (s.engine = .parked →
          t = { s with link := t.link, paths := t.paths, pool := t.pool, freeList := t.freeList } ∧
          t.freeList = s.freeList ++ (s.path m r).chain.drop maxSegs.toNat ∧
          (∀ i, t.segment i = if i ∈ (s.path m r).chain.drop maxSegs.toNat then
              { s.segment i with owner := .free, energy := 0 }
            else s.segment i) ∧
          (∀ m' r', ¬(m' = m ∧ r' = r) → t.path m' r' = s.path m' r') ∧
          (t.path m r).minSegs = minSegs.toNat ∧ (t.path m r).maxSegs = maxSegs.toNat ∧
          (t.path m r).pinned = flags.getLsbD 0 ∧ (t.path m r).limits = none ∧
          (t.path m r).lead = (if flags.getLsbD 1 then lead.toNat else (s.path m r).lead) ∧
          (t.path m r).chain = (s.path m r).chain.take maxSegs.toNat ∧
          ((s.path m r).chain.length ≤ maxSegs.toNat → t.link.reports = s.link.reports ∧ t.link.flags = s.link.flags) ∧
          (maxSegs.toNat < (s.path m r).chain.length → s.link.masks.getLsbD 4 = false → s.link.reports.length < 32 →
            t.link.reports = s.link.reports ++ [⟨0x74#8, 0#8,
              byteOf m.val :: byteOf r.val :: 9#8 :: byteOf ((s.path m r).chain.length - maxSegs.toNat) :: maxSegs ::
                (le2 (t.path m r).lead ++ 0#8 :: (le2 t.freeCount ++ le2 t.activeCount ++ le2 t.checkpointCount ++
                  byteOf s.queue.length :: le4 s.frameCounter.toNat))⟩])) ∧
        t.link.reply = some ⟨0x99#8, tag, 0#8 :: minSegs :: maxSegs :: (if flags.getLsbD 0 then 1#8 else 0#8) ::
          (le2 (if flags.getLsbD 1 then lead.toNat else (s.path m r).lead) ++ [byteOf (s.path m r).chain.length])⟩)

/-- MIC.FREEZE and MIC.THAW set and clear the pending host freeze flags of their mask, which become current at once in
PARKED (R57). MIC.MUTE and MIC.OUTPUT while RUNNING set pending values alone, and in PARKED make them current (R144,
R145). In PARKED nothing else of the microphones changes but their modes, each derived from the causes the request
leaves (R56): a frozen microphone whose halt flag is clear is FROZEN, and a thawed one with no other cause is LIVE
again. Every output line then shows its source (R168; no frame end stands open in PARKED, as queueSound says and
StepsKeepThePoolSound keeps). The replies carry the 16 pending flags, and of MIC.OUTPUT the lane and its two sources as
the request leaves them (R57, R144, R145). A flag of an unconfigured lane, an action above 1 and a source above 2 are
refused. A frame end makes the pending flags and source of each microphone current (R57, R144, R145). -/
def Obligations.FreezeMuteAndOutputSource : Prop :=
  (∀ (m : MicLane) (w : FrameWork) (s : State), s.phase = .taking w →
      let t := s.runTask (.hostFlags m) w
      t = { s with mics := t.mics } ∧
      t.mic m = { s.mic m with
        talk := { (s.mic m).talk with freeze := (s.mic m).talk.freezePending }
        out := { (s.mic m).out with mute := (s.mic m).out.mutePending, source := (s.mic m).out.sourcePending } } ∧
      ∀ m', m' ≠ m → t.mic m' = s.mic m') ∧
  (∀ (tag : Byte) (mask : BitVec 16) (s : State), s.accepting →
       (∀ m : MicLane, mask.getLsbD m.val = true → m.val < s.layout.mics) →
       ∃ t u, exec (.micFreeze tag mask) s = .next t ∧ exec (.micThaw tag mask) s = .next u ∧
         (∀ m : MicLane,
           (t.mic m).talk.freezePending = (mask.getLsbD m.val || (s.mic m).talk.freezePending) ∧
           (u.mic m).talk.freezePending = (!mask.getLsbD m.val && (s.mic m).talk.freezePending)) ∧
         (∃ flags : BitVec 16, (∀ m : MicLane, flags.getLsbD m.val = (t.mic m).talk.freezePending) ∧
           s.repliedTo ⟨0x1A#8, tag, le2 mask.toNat⟩ (0#8 :: le2 flags.toNat) t) ∧
         (∃ flags : BitVec 16, (∀ m : MicLane, flags.getLsbD m.val = (u.mic m).talk.freezePending) ∧
           s.repliedTo ⟨0x1B#8, tag, le2 mask.toNat⟩ (0#8 :: le2 flags.toNat) u) ∧
         (s.engine = .running →
           t = { s with link := t.link, mics := t.mics } ∧ u = { s with link := u.link, mics := u.mics } ∧
           ∀ m : MicLane,
             t.mic m = { s.mic m with talk := { (s.mic m).talk with freezePending := (t.mic m).talk.freezePending } } ∧
             u.mic m = { s.mic m with talk := { (s.mic m).talk with freezePending := (u.mic m).talk.freezePending } }) ∧
         (s.engine = .parked →
           t = { s with link := t.link, mics := t.mics, outLines := t.outLines } ∧
           u = { s with link := u.link, mics := u.mics, outLines := u.outLines } ∧
           (s.phase = .sampling → s.refreshesLines t ∧ s.refreshesLines u) ∧ s.derivesModes t ∧ s.derivesModes u ∧
           (∀ m : MicLane,
             t.mic m = { s.mic m with talk := { (s.mic m).talk with
               freeze := (t.mic m).talk.freezePending, freezePending := (t.mic m).talk.freezePending
               mode := (t.mic m).talk.mode } } ∧
             u.mic m = { s.mic m with talk := { (s.mic m).talk with
               freeze := (u.mic m).talk.freezePending, freezePending := (u.mic m).talk.freezePending
               mode := (u.mic m).talk.mode } }) ∧
           ∀ m : MicLane, mask.getLsbD m.val = true → (s.mic m).talk.halt = false →
             (t.mic m).talk.mode = .frozen ∧
             ((s.mic m).talk.levelHold = false → (s.mic m).holdSpan = 0 → (u.mic m).talk.mode = .live))) ∧
  (∀ (tag : Byte) (s : State), s.accepting →
       (∀ (mask : BitVec 16) (set : Bool), (∀ m : MicLane, mask.getLsbD m.val = true → m.val < s.layout.mics) →
         ∃ t, exec (.micMute tag mask (if set then 1#8 else 0#8)) s = .next t ∧
           (∀ m : MicLane, (t.mic m).out.mutePending =
             if mask.getLsbD m.val then set else (s.mic m).out.mutePending) ∧
           (∃ flags : BitVec 16, (∀ m : MicLane, flags.getLsbD m.val = (t.mic m).out.mutePending) ∧
             s.repliedTo ⟨0x1C#8, tag, le2 mask.toNat ++ [if set then 1#8 else 0#8]⟩ (0#8 :: le2 flags.toNat) t) ∧
           (s.engine = .running → t = { s with link := t.link, mics := t.mics } ∧
             ∀ m, t.mic m = { s.mic m with
               out := { (s.mic m).out with mutePending := (t.mic m).out.mutePending } }) ∧
           (s.engine = .parked → t = { s with link := t.link, mics := t.mics, outLines := t.outLines } ∧
             (s.phase = .sampling → s.refreshesLines t) ∧ s.derivesModes t ∧
             ∀ m, t.mic m = { s.mic m with
               talk := { (s.mic m).talk with mode := (t.mic m).talk.mode }
               out := { (s.mic m).out with
                 mute := (t.mic m).out.mutePending, mutePending := (t.mic m).out.mutePending } })) ∧
       (∀ (m : MicLane) (x : Source), m.val < s.layout.mics →
         ∃ t, exec (.micOutput tag (byteOf m.val) (byteOf x.code)) s = .next t ∧ (t.mic m).out.sourcePending = x ∧
           (s.engine = .running →
             t = { s with link := t.link, mics := t.mics } ∧
             (∀ m', m' ≠ m → t.mic m' = s.mic m') ∧
             t.mic m = { s.mic m with out := { (s.mic m).out with sourcePending := x } } ∧
             s.repliedTo ⟨0x1D#8, tag, [byteOf m.val, byteOf x.code]⟩
               [0#8, byteOf m.val, byteOf (s.mic m).out.source.code, byteOf x.code] t) ∧
           (s.engine = .parked → t = { s with link := t.link, mics := t.mics, outLines := t.outLines } ∧
             (s.phase = .sampling → s.refreshesLines t) ∧ s.derivesModes t ∧
             (∀ m', t.mic m' = { s.mic m' with
               talk := { (s.mic m').talk with mode := (t.mic m').talk.mode }
               out := if m' = m then { (s.mic m).out with source := x, sourcePending := x } else (s.mic m').out }) ∧
             s.repliedTo ⟨0x1D#8, tag, [byteOf m.val, byteOf x.code]⟩
               [0#8, byteOf m.val, byteOf x.code, byteOf x.code] t))) ∧
  (∀ (tag source action : Byte) (mask : BitVec 16) (m : MicLane) (s : State), s.accepting →
     ((∃ m : MicLane, mask.getLsbD m.val = true ∧ s.layout.mics ≤ m.val) →
       ∃ t u v, exec (.micFreeze tag mask) s = .next t ∧ exec (.micThaw tag mask) s = .next u ∧
         exec (.micMute tag mask action) s = .next v ∧ t = { s with link := t.link } ∧ u = { s with link := u.link } ∧
         v = { s with link := v.link } ∧ s.repliedTo ⟨0x1A#8, tag, le2 mask.toNat⟩ [3#8] t ∧
         s.repliedTo ⟨0x1B#8, tag, le2 mask.toNat⟩ [3#8] u ∧
         s.repliedTo ⟨0x1C#8, tag, le2 mask.toNat ++ [action]⟩ [3#8] v) ∧
     (1 < action.toNat →
       ∃ v, exec (.micMute tag mask action) s = .next v ∧ v = { s with link := v.link } ∧
         s.repliedTo ⟨0x1C#8, tag, le2 mask.toNat ++ [action]⟩ [3#8] v) ∧
     (2 < source.toNat →
       ∃ v, exec (.micOutput tag (byteOf m.val) source) s = .next v ∧ v = { s with link := v.link } ∧
         s.repliedTo ⟨0x1D#8, tag, [byteOf m.val, source]⟩ [3#8] v))

/-- MIC.RESET (R159): pending while RUNNING; in PARKED it goes through its seven steps. An image session on the
microphone ends and a reservation of it is released (R135); the VALID slots are released in ascending slot number and
the HELD ones kept, and the ring's pending work is cleared (R125); queued requests and pending limits go; the chains are
released and reallocated path by path, each enabled path receiving the smallest of its share, the free count and 2048
minus the ACTIVE count, in ascending reference lane from the head of the free list, zero-filled with lead delay 0 (R64,
R72); the engine, talk and suppressor records take their MIC.RESET values (R59, R148); the trim steps, mute, sources and
limits are kept. A segment neither released nor taken keeps coefficients, energy and owner; a released one that is not taken
again is FREE with energy 0 (R64), and every segment of the new chains names its place (R60, R63). Every output line then
shows its source (R168). The pool is sound (R60 to R67), as every step keeps it. -/
def Obligations.MicResetRebuildsTheMicrophone : Prop :=
  ∀ (tag : Byte) (m : MicLane) (s : State), s.accepting → m.val < s.layout.mics → s.poolSound →
      ∃ t, exec (.micReset tag (byteOf m.val)) s = .next t ∧
        (s.engine = .running → t = { s with link := t.link, mics := t.mics } ∧
          t.mic m = { s.mic m with resetPending := true } ∧ ∀ m', m' ≠ m → t.mic m' = s.mic m') ∧
        (s.engine = .parked →
          let reserved : List SegIndex := match s.session with
            | some x => if x.m = m ∧ x.kind = .importing then x.entries.flatMap PathEntry.chain else []
            | none => []
          let valid : List SegIndex := allSlots.flatMap fun k => match (s.slot m k).record with
            | some rec => if (s.slot m k).tag = .valid then rec.entries.flatMap PathEntry.chain else []
            | none => []
          let gone := reserved ++ (valid ++ s.micSegments m)
          let list := s.freeList ++ gone
          let fresh := t.micSegments m
          let before := fun r : RefLane => ((allRefs.filter fun q => decide (q < r)).map fun q =>
            (t.path m q).chain.length).sum
          t = { s with
            link := t.link, mics := t.mics, paths := t.paths, pool := t.pool, freeList := t.freeList,
            queue := t.queue, session := t.session, outLines := t.outLines, phase := t.phase } ∧
          t.session = (match s.session with
            | some x => if x.m = m then none else some x
            | none => none) ∧
          t.queue = s.queue.filter (fun q => q.m != m) ∧
          (∀ m', m' ≠ m →
            t.mic m' = { s.mic m' with talk := { (s.mic m').talk with mode := (t.mic m').talk.mode } } ∧
            ∀ r, t.path m' r = s.path m' r) ∧
          (∀ k, (t.slot m k).command = none ∧
            ((s.slot m k).tag = .held → (t.slot m k).tag = .held ∧ (t.slot m k).record = (s.slot m k).record) ∧
            ((s.slot m k).tag ≠ .held → (t.slot m k).tag = .empty ∧ (t.slot m k).record = none)) ∧
          (t.mic m).ring.top = (s.mic m).ring.top ∧ (t.mic m).ring.interval = 0 ∧
          (t.mic m).ring.pushPending = false ∧ (t.mic m).ring.recallPending = none ∧
          (t.mic m).ring.restored = .clear ∧ (t.mic m).resetPending = false ∧
          (t.mic m).engine.ed = 0 ∧ (t.mic m).engine.ey = 0 ∧ (t.mic m).engine.ee = 0 ∧
          (t.mic m).engine.coefMark.raised = false ∧ (t.mic m).engine.estMark.raised = false ∧
          (t.mic m).engine.errMark.raised = false ∧ (t.mic m).engine.sticky = .clear ∧
          (t.mic m).talk.talk = .quiet ∧ (t.mic m).talk.nearHang = 0 ∧ (t.mic m).talk.farHang = 0 ∧
          (t.mic m).talk.edSmooth = 0 ∧ (t.mic m).talk.eeSmooth = 0 ∧
          (t.mic m).talk.settled = false ∧ (t.mic m).talk.erle = 0 ∧ (t.mic m).talk.divCount = 0 ∧
          (t.mic m).talk.freeze = false ∧ (t.mic m).talk.freezePending = false ∧ (t.mic m).talk.halt = false ∧
          (t.mic m).haltKinds = 0#16 ∧
          (t.mic m).holdSpan = 0 ∧ (t.mic m).out.gain = 32767 ∧ (t.mic m).out.floor = 2 ^ 30 ∧
          (t.mic m).out.amplitude = 32768 ∧ (t.mic m).out.generator = BitVec.ofNat 16 (0x0101 * (m.val + 1)) ∧
          (t.mic m).out.mute = (s.mic m).out.mute ∧ (t.mic m).out.mutePending = (s.mic m).out.mutePending ∧
          (t.mic m).out.source = (s.mic m).out.source ∧ (t.mic m).out.sourcePending = (s.mic m).out.sourcePending ∧
          (t.mic m).trim = (s.mic m).trim ∧ (t.mic m).trimPending = (s.mic m).trimPending ∧
          (∀ r, (t.path m r).lead = 0 ∧ (t.path m r).limits = none ∧ (t.path m r).openGates = 0 ∧
            (t.path m r).granted = false ∧ (t.path m r).minSegs = (s.path m r).minSegs ∧
            (t.path m r).maxSegs = (s.path m r).maxSegs ∧ (t.path m r).pinned = (s.path m r).pinned ∧
            (t.path m r).chain.length =
              (if s.enabled m r = true then
                min (min s.layout.initialSegs (s.path m r).maxSegs)
                  (min (list.length - before r) (2048 - (s.activeCount - s.micActive m + before r)))
              else 0) ∧
            (t.path m r).chain = (list.drop (before r)).take (t.path m r).chain.length ∧
            ∀ i ∈ (t.path m r).chain, (t.segment i).coefs = zeroCoefs ∧ (t.segment i).energy = 0) ∧
          t.freeList = list.drop (t.micActive m) ∧ s.keepsSegments (gone ++ fresh) t ∧ s.freesSegments gone fresh t ∧
          t.chainsPlaced m ∧ s.refreshesLines t) ∧
        ∃ flag : Byte, t.link.reply = some ⟨0x9E#8, tag, 0#8 :: byteOf m.val :: flag ::
            allRefs.map fun r => byteOf (t.path m r).chain.length⟩ ∧
          flag = if s.engine = .parked then 1#8 else 0#8

/-! ## Checkpoint requests (Chapter 6) -/

/-- CKPT.PUSH (R109, R112): pending while RUNNING; refused with REFUSED_STATE while the halt flag is set; in PARKED,
with the slot after the top EMPTY and room for a copy, the record is made in that slot, which becomes the top.
The record's segments come from the head of the free list and hold the chains' coefficients. Placement goes round from
the slot after the top and passes over HELD, FILLING and exporting slots; a chosen VALID slot is overwritten, its
segments released first (R110, R111); where that is not room enough, the other unprotected slot with the smallest
sequence number is evicted (R111); where there is too little room in all, the push is refused with NO_ROOM and
POOL_EXHAUSTED is counted, and where every slot is passed over it is refused with REFUSED_BUSY and RING_FULL is
counted, the ring and the pool as they were (R109 to R111). A segment neither released nor taken keeps coefficients, energy
and owner. Each reply carries the ring summary after its status, 58 bytes (R124; the fields a FILLING slot leaves open are
assumption 6). In PARKED every output line then shows its source (R168), but for a push refused by the halt flag, which
changes nothing. An automatic push is made where every condition of R108
holds and no push has been made for the microphone at this frame end, and a refused one restarts the interval (R107);
that the mode for the next frame and a coming halt are those the rest of the frame end leaves is assumption 21. A frame
end takes a pending push as a forced push: the record is made in the slot after the top, where that is EMPTY and there
is room; no push is made, with one CKPT report REFUSED HALTED, where the halt flag is set; and a pending push is
cleared without one where another has been made (R109, R165). What the report says of slot and record is open
(assumptions 6 and 57). -/
def Obligations.PushMakesARecord : Prop :=
  (∀ (m : MicLane) (w : FrameWork) (s : State), s.phase = .taking w →
      let t := s.runTask (.forcedPush m) w
      let cleared := { s.mic m with ring := { (s.mic m).ring with pushPending := false } }
      ((s.mic m).ring.pushPending = false → t = s) ∧
      ((s.mic m).ring.pushPending = true → w.pushTaken.get m = true →
        t = { s with mics := t.mics } ∧ t.mic m = cleared ∧ ∀ m', m' ≠ m → t.mic m' = s.mic m') ∧
      ((s.mic m).ring.pushPending = true → w.pushTaken.get m = false → (s.mic m).talk.halt = true →
        t = { s with
          mics := t.mics, link := t.link, drawn := t.drawn
          phase := .taking { w with pushTaken := tablePut w.pushTaken m true } } ∧
        t.mic m = cleared ∧ (∀ m', m' ≠ m → t.mic m' = s.mic m') ∧
        ∃ (slot tag rollbacks : Byte) (sequence segments : Nat), t.link = s.link.report .ckpt
          (byteOf m.val :: slot :: 10#8 :: 2#8 :: tag ::
            (le4 sequence ++ le2 segments ++ rollbacks :: le4 s.frameCounter.toNat))) ∧
      ((s.mic m).ring.pushPending = true → w.pushTaken.get m = false → (s.mic m).talk.halt = false →
        s.slot m ((s.mic m).ring.top + 1) = Slot.blank → s.micActive m ≤ s.freeCount →
        let k := (s.mic m).ring.top + 1
        ∃ rec, t = { s with
            mics := t.mics, pool := t.pool, freeList := s.freeList.drop (entriesSegments rec.entries), link := t.link
            pushSequence := rec.sequence, phase := .taking { w with pushTaken := tablePut w.pushTaken m true } } ∧
          t.slot m k = ⟨.valid, false, some rec, none⟩ ∧
          t.mic m = { s.mic m with
            ring := { (s.mic m).ring with
              slots := (t.mic m).ring.slots, top := k, interval := 0, pushPending := false } } ∧
          (∀ j, j ≠ k → t.slot m j = s.slot m j) ∧ (∀ m', m' ≠ m → t.mic m' = s.mic m') ∧
          rec.sequence = (if s.pushSequence = 4294967295#32 then 1#32 else s.pushSequence + 1#32) ∧
          rec.frame = s.frameCounter ∧ rec.trim = (s.mic m).trim ∧ rec.erle = (s.mic m).talk.erle ∧
          rec.settled = (s.mic m).talk.settled ∧ rec.sticky = (s.mic m).engine.sticky ∧ rec.rollbacks = 0 ∧
          (rec.entries.map fun e => (e.r, e.lead, e.chain.length)) =
            ((allRefs.filter (s.enabled m)).map fun r => (r, (s.path m r).lead, (s.path m r).chain.length)) ∧
          rec.entries.flatMap PathEntry.chain = s.freeList.take (entriesSegments rec.entries) ∧
          t.link = s.link.report .ckpt (byteOf m.val :: byteOf k.val :: 0#8 :: 1#8 :: 1#8 ::
            (le4 rec.sequence.toNat ++ le2 (entriesSegments rec.entries) ++ 0#8 :: le4 s.frameCounter.toNat)) ∧
          (∀ i, i ∉ s.freeList.take (entriesSegments rec.entries) → t.segment i = s.segment i) ∧
          (s.freeList.Nodup → (∀ (r : RefLane), ∀ i ∈ (s.path m r).chain, i ∉ s.freeList) →
            ∀ e ∈ rec.entries, ∀ (p : Nat) (i j : SegIndex), e.chain[p]? = some i →
              (s.path m e.r).chain[p]? = some j → (t.segment i).coefs = (s.segment j).coefs))) ∧
  (∀ (tag : Byte) (m : MicLane) (s : State), s.accepting → m.val < s.layout.mics →
      ((s.mic m).talk.halt = true →
        ∃ t rest, exec (.ckptPush tag (byteOf m.val)) s = .next t ∧
          t = { s with link := t.link, drawn := t.drawn } ∧ t.link.reply = some ⟨0xA0#8, tag, 2#8 :: rest⟩ ∧ t.showsRing m rest) ∧
      ((s.mic m).talk.halt = false → s.engine = .running →
        ∃ t rest, exec (.ckptPush tag (byteOf m.val)) s = .next t ∧
          t = { s with link := t.link, mics := t.mics, drawn := t.drawn } ∧
          t.mic m = { s.mic m with ring := { (s.mic m).ring with pushPending := true } } ∧
          (∀ m', m' ≠ m → t.mic m' = s.mic m') ∧ t.link.reply = some ⟨0xA0#8, tag, 0#8 :: rest⟩ ∧ t.showsRing m rest) ∧
      ((s.mic m).talk.halt = false → s.engine = .parked →
        s.slot m ((s.mic m).ring.top + 1) = Slot.blank → s.micActive m ≤ s.freeCount →
        ∃ t rec rest, exec (.ckptPush tag (byteOf m.val)) s = .next t ∧
          t.pushSequence = (if s.pushSequence = 4294967295#32 then 1#32 else s.pushSequence + 1#32) ∧
          (t.mic m).ring.top = (s.mic m).ring.top + 1 ∧ (t.mic m).ring.interval = 0 ∧
          t.slot m ((s.mic m).ring.top + 1) = ⟨.valid, false, some rec, none⟩ ∧ rec.sequence = t.pushSequence ∧
          rec.frame = s.frameCounter ∧ rec.trim = (s.mic m).trim ∧ rec.erle = (s.mic m).talk.erle ∧
          rec.settled = (s.mic m).talk.settled ∧ rec.sticky = (s.mic m).engine.sticky ∧ rec.rollbacks = 0 ∧
          (rec.entries.map fun e => (e.r, e.lead, e.chain.length)) =
            ((allRefs.filter (s.enabled m)).map fun r => (r, (s.path m r).lead, (s.path m r).chain.length)) ∧
          t.link.reply = some ⟨0xA0#8, tag, 0#8 :: rest⟩ ∧ t.showsRing m rest ∧ t.paths = s.paths ∧
          (s.phase = .sampling → s.refreshesLines t) ∧
          (∀ k, k ≠ (s.mic m).ring.top + 1 → t.slot m k = s.slot m k) ∧
          (∀ m', m' ≠ m → (t.mic m').ring = (s.mic m').ring) ∧
          rec.entries.flatMap PathEntry.chain = s.freeList.take (entriesSegments rec.entries) ∧
          t.freeList = s.freeList.drop (entriesSegments rec.entries) ∧
          (∀ i, i ∉ s.freeList.take (entriesSegments rec.entries) → t.segment i = s.segment i) ∧
          (s.freeList.Nodup → (∀ (m' : MicLane) (r : RefLane), ∀ i ∈ (s.path m' r).chain, i ∉ s.freeList) →
            ∀ e ∈ rec.entries, ∀ (p : Nat) (i j : SegIndex), e.chain[p]? = some i →
              (s.path m e.r).chain[p]? = some j → (t.segment i).coefs = (s.segment j).coefs))) ∧
  (∀ (tag : Byte) (m : MicLane) (s : State), s.accepting → m.val < s.layout.mics → s.engine = .parked →
      (s.mic m).talk.halt = false →
      let passed := fun k : SlotIndex =>
        (s.slot m k).tag = .held ∨ (s.slot m k).tag = .filling ∨
          (s.slot m k).tag = .valid ∧ (s.slot m k).exporting = true
      let room := s.freeCount + (allSlots.map fun k =>
        if (s.slot m k).tag = .valid ∧ (s.slot m k).exporting = false then s.slotSegments m k else 0).sum
      ((∀ k, passed k) →
        ∃ t rest, exec (.ckptPush tag (byteOf m.val)) s = .next t ∧
          t = { s with drawn := t.drawn, mics := t.mics, outLines := t.outLines, link := t.link, phase := t.phase } ∧
          (∀ k, t.slot m k = s.slot m k) ∧ (t.mic m).ring.top = (s.mic m).ring.top ∧
          (t.mic m).ring.interval = (s.mic m).ring.interval ∧
          (t.faultEntry .ringFull).count = min 65535 ((s.faultEntry .ringFull).count + 1) ∧
          t.link.reply = some ⟨0xA0#8, tag, 4#8 :: rest⟩ ∧ t.showsRing m rest ∧
            (s.phase = .sampling → s.refreshesLines t)) ∧
      (∀ j : Fin 4, (∀ i : Fin 4, i < j → passed ((s.mic m).ring.top + 1 + i)) → ¬passed ((s.mic m).ring.top + 1 + j) →
        let k := (s.mic m).ring.top + 1 + j
        (room < s.micActive m →
          ∃ t rest, exec (.ckptPush tag (byteOf m.val)) s = .next t ∧
            t = { s with drawn := t.drawn, mics := t.mics, outLines := t.outLines, link := t.link, phase := t.phase } ∧
            (∀ k, t.slot m k = s.slot m k) ∧ (t.mic m).ring.top = (s.mic m).ring.top ∧
            (t.mic m).ring.interval = (s.mic m).ring.interval ∧
            (t.faultEntry .poolExhausted).count = min 65535 ((s.faultEntry .poolExhausted).count + 1) ∧
            t.link.reply = some ⟨0xA0#8, tag, 6#8 :: rest⟩ ∧ t.showsRing m rest ∧
            (s.phase = .sampling → s.refreshesLines t)) ∧
        (∀ gone : List SegIndex,
          ((s.slot m k).tag = .empty ∧ (s.slot m k).record = none ∧ gone = [] ∨
            ∃ old, (s.slot m k).tag = .valid ∧ (s.slot m k).record = some old ∧
              gone = old.entries.flatMap PathEntry.chain) →
          (s.micActive m ≤ s.freeCount + gone.length →
            ∃ t rec rest, exec (.ckptPush tag (byteOf m.val)) s = .next t ∧
              t.slot m k = { s.slot m k with tag := .valid, record := some rec } ∧ rec.sequence = t.pushSequence ∧
              t.pushSequence = (if s.pushSequence = 4294967295#32 then 1#32 else s.pushSequence + 1#32) ∧
              rec.rollbacks = 0 ∧ (t.mic m).ring.top = k ∧ (t.mic m).ring.interval = 0 ∧ t.paths = s.paths ∧
              (∀ k', k' ≠ k → t.slot m k' = s.slot m k') ∧
              rec.entries.flatMap PathEntry.chain = (s.freeList ++ gone).take (entriesSegments rec.entries) ∧
              t.freeList = (s.freeList ++ gone).drop (entriesSegments rec.entries) ∧
              s.keepsSegments (gone ++ (s.freeList ++ gone).take (entriesSegments rec.entries)) t ∧
              s.freesSegments gone ((s.freeList ++ gone).take (entriesSegments rec.entries)) t ∧
              (s.phase = .sampling → s.refreshesLines t) ∧
              t.link.reply = some ⟨0xA0#8, tag, 0#8 :: rest⟩ ∧ t.showsRing m rest) ∧
          (∀ (k' : SlotIndex) (rec' : CkptRecord), k' ≠ k → (s.slot m k').tag = .valid →
            (s.slot m k').exporting = false → (s.slot m k').record = some rec' →
            (∀ k'', k'' ≠ k → k'' ≠ k' → (s.slot m k'').tag = .valid → (s.slot m k'').exporting = false →
              ∃ rec'', (s.slot m k'').record = some rec'' ∧ rec'.sequence.toNat < rec''.sequence.toNat) →
            s.freeCount + gone.length < s.micActive m →
            s.micActive m ≤ s.freeCount + gone.length + entriesSegments rec'.entries →
            ∃ t rec rest, exec (.ckptPush tag (byteOf m.val)) s = .next t ∧
              t.slot m k = { s.slot m k with tag := .valid, record := some rec } ∧ rec.sequence = t.pushSequence ∧
              t.slot m k' = { s.slot m k' with tag := .empty, record := none } ∧
              (t.mic m).ring.top = k ∧ (t.mic m).ring.interval = 0 ∧
              (∀ k'', k'' ≠ k → k'' ≠ k' → t.slot m k'' = s.slot m k'') ∧
              let dropped := gone ++ rec'.entries.flatMap PathEntry.chain
              let taken := (s.freeList ++ dropped).take (entriesSegments rec.entries)
              rec.entries.flatMap PathEntry.chain = taken ∧
              t.freeList = (s.freeList ++ dropped).drop (entriesSegments rec.entries) ∧
              s.keepsSegments (dropped ++ taken) t ∧ s.freesSegments dropped taken t ∧
              (s.phase = .sampling → s.refreshesLines t) ∧
              t.link.reply = some ⟨0xA0#8, tag, 0#8 :: rest⟩ ∧ t.showsRing m rest)))) ∧
  (∀ (m : MicLane) (w : FrameWork) (s : State), s.phase = .taking w →
      let due := ∃ h, w.handover.get m = some h ∧ h.settled = true ∧ w.governing.ckptIndex ≤ h.erle ∧ h.calm = true
      let wanted := w.pushTaken.get m = false ∧ w.adapting.get m = true ∧ due ∧
        w.governing.ckptInterval ≤ (s.mic m).ring.interval ∧ s.liveNext m = true
      (¬wanted → s.autoPush m w = s) ∧
      (wanted → s.slot m ((s.mic m).ring.top + 1) = Slot.blank → s.micActive m ≤ s.freeCount →
        ∃ rec, (s.autoPush m w).slot m ((s.mic m).ring.top + 1) = ⟨.valid, false, some rec, none⟩ ∧
          rec.sequence = (s.autoPush m w).pushSequence ∧
          (s.autoPush m w).pushSequence =
            (if s.pushSequence = 4294967295#32 then 1#32 else s.pushSequence + 1#32) ∧
          ((s.autoPush m w).mic m).ring.top = (s.mic m).ring.top + 1 ∧ ((s.autoPush m w).mic m).ring.interval = 0 ∧
          (s.autoPush m w).freeList = s.freeList.drop (entriesSegments rec.entries) ∧
          (s.autoPush m w).phase = .taking { w with pushTaken := tablePut w.pushTaken m true }) ∧
      (wanted → (∀ k, (s.slot m k).tag = .held ∨ (s.slot m k).tag = .filling) →
        ((s.autoPush m w).mic m).ring.interval = 0 ∧ (∀ k, (s.autoPush m w).slot m k = s.slot m k) ∧
          (s.autoPush m w).pushSequence = s.pushSequence ∧ (s.autoPush m w).freeList = s.freeList ∧
          ((s.autoPush m w).faultEntry .ringFull).count = min 65535 ((s.faultEntry .ringFull).count + 1)))

/-- CKPT.HOLD, CKPT.RELEASE, CKPT.DISCARD and CKPT.RECALL on a slot (R117, R118, R120 to R123). The three commands,
with an effect, wait while RUNNING and act at once in PARKED; with none (HOLD of a HELD slot, RELEASE of a VALID one,
DISCARD of an EMPTY one) they are accepted and change nothing; HOLD and RELEASE of an EMPTY or FILLING slot are
refused with REFUSED_STATE, DISCARD of an exporting or FILLING slot and any of them on a slot with
a command pending with REFUSED_BUSY. A recall is refused likewise for an EMPTY or FILLING slot and for
one with a command pending; which check comes first where both refuse is assumption 11's choice. It is
pending while RUNNING; in PARKED it restores. Where a copy has room, the chains are released and the record's entries
for enabled paths take segments from the head of the free list in record order, with the record's coefficients and lead
delays, a path with no entry taking an empty chain; a chain above `max_segs` is then cut (R76). Where only the free
list is short and the slot is VALID and not exporting, the record's own segments become the chains and the slot EMPTY.
Otherwise the chains are zeroed in place, the slot kept, the answer NO_ROOM, POOL_EXHAUSTED counted. Other
segments stand, released ones are FREE with energy 0 (R64), and the new chains' name their places (R60, R63, R65). After
a recall in PARKED output lines show their sources (R168). Replies carry the ring summary, 58 bytes (R124; a FILLING
slot's open fields: assumption 6). The pool is sound (R60 to R67), as each step keeps it. A frame end takes a pending
slot command with its CKPT report, where it still has an effect, and otherwise drops it with the status it would have
had (R123, R124); and it takes a pending recall as above, without the cut, a piece of its own, or drops it where the
slot has become EMPTY or FILLING (R120). What a report says of a slot without a record is open; that it names slot and
tag is the model's choice (assumptions 6 and 57). -/
def Obligations.SlotRequestsActOnTheirSlot : Prop :=
  (∀ (m : MicLane) (k : SlotIndex) (w : FrameWork) (s : State), s.phase = .taking w →
      let t := s.runTask (.slotCommand m k) w
      let x := s.slot m k
      let told := fun (event cause tag : Byte) => ∃ (sequence segments : Nat) (rollbacks : Byte),
        (∀ rec, x.record = some rec → sequence = rec.sequence.toNat ∧ segments = entriesSegments rec.entries ∧
          rollbacks = byteOf rec.rollbacks) ∧
        t.link = s.link.report .ckpt (byteOf m.val :: byteOf k.val :: event :: cause :: tag ::
          (le4 sequence ++ le2 segments ++ rollbacks :: le4 s.frameCounter.toNat))
      let moved := fun y : Slot =>
        t = { s with mics := t.mics, link := t.link, drawn := t.drawn } ∧ t.slot m k = y ∧
          ∀ m' k', ¬(m' = m ∧ k' = k) → t.slot m' k' = s.slot m' k'
      let dropped := fun status : Byte => moved { x with command := none } ∧ told 8#8 status (byteOf x.tag.code)
      (∀ m', (t.mic m') = { s.mic m' with ring := { (s.mic m').ring with slots := (t.mic m').ring.slots } }) ∧
      (x.command = none → t = s) ∧
      (x.command = some .hold →
        (x.tag = .valid → moved { x with tag := .held, command := none } ∧ told 5#8 0#8 2#8) ∧
        (x.tag = .held → dropped 0#8) ∧ (x.tag = .empty ∨ x.tag = .filling → dropped 2#8)) ∧
      (x.command = some .release →
        (x.tag = .held → moved { x with tag := .valid, command := none } ∧ told 6#8 0#8 1#8) ∧
        (x.tag = .valid → dropped 0#8) ∧ (x.tag = .empty ∨ x.tag = .filling → dropped 2#8)) ∧
      (x.command = some .discard →
        (∀ rec, x.tag = .valid ∨ x.tag = .held → x.exporting = false → x.record = some rec →
          let gone := rec.entries.flatMap PathEntry.chain
          t = { s with mics := t.mics, link := t.link, pool := t.pool, freeList := s.freeList ++ gone } ∧
          t.slot m k = { x with tag := .empty, record := none, command := none } ∧
          (∀ m' k', ¬(m' = m ∧ k' = k) → t.slot m' k' = s.slot m' k') ∧
          (∀ i, t.segment i = if i ∈ gone then { s.segment i with owner := .free, energy := 0 } else s.segment i) ∧
          told 7#8 0#8 0#8) ∧
        (x.tag = .empty → dropped 0#8) ∧ (x.tag = .filling → dropped 4#8) ∧
        (x.tag = .valid ∨ x.tag = .held → x.exporting = true → dropped 4#8))) ∧
  (∀ (m : MicLane) (w : FrameWork) (s : State), s.phase = .taking w → s.engine = .running → s.poolSound →
      let t := s.runTask (.recall m) w
      ((s.mic m).ring.recallPending = none → t = s) ∧
      ∀ k, (s.mic m).ring.recallPending = some k →
        let x := s.slot m k
        (x.tag = .empty ∨ x.tag = .filling →
          t = { s with mics := t.mics, link := t.link, drawn := t.drawn } ∧
          t.mic m = { s.mic m with ring := { (s.mic m).ring with recallPending := none } } ∧
          (∀ m', m' ≠ m → t.mic m' = s.mic m') ∧
          ∃ (sequence segments : Nat) (rollbacks : Byte), t.link = s.link.report .ckpt
            (byteOf m.val :: byteOf k.val :: 8#8 :: 2#8 :: byteOf x.tag.code ::
              (le4 sequence ++ le2 segments ++ rollbacks :: le4 s.frameCounter.toNat))) ∧
        (∀ rec, x.tag = .valid ∨ x.tag = .held → x.record = some rec →
          let live := rec.entries.filter fun e => s.enabled m e.r
          let n := (live.map fun e => e.chain.length).sum
          let own := s.micSegments m
          let list := s.freeList ++ own
          let recorded := rec.entries.flatMap PathEntry.chain
          let fits := s.activeCount - s.micActive m + n ≤ 2048
          (∃ v, t.phase = .taking v ∧ v.restoreTaken.get m = true ∧ v.replaced.get m = true ∧ v.todo = w.todo) ∧
          (t.mic m).ring.recallPending = none ∧ (t.mic m).ring.interval = 0 ∧
          (t.mic m).talk.edSmooth = 0 ∧ (t.mic m).talk.eeSmooth = 0 ∧ (t.mic m).talk.divCount = 0 ∧
          (t.mic m).out = (s.mic m).out ∧ t.queue = s.queue.filter (fun q => q.m != m) ∧
          (∀ m', m' ≠ m → t.mic m' = s.mic m' ∧ ∀ r, t.path m' r = s.path m' r) ∧
          (∀ j, j ≠ k → t.slot m j = s.slot m j) ∧
          (∀ r, (t.path m r).openGates = 0 ∧ (t.path m r).granted = false ∧
            (t.path m r).maxSegs = (s.path m r).maxSegs ∧ (t.path m r).minSegs = (s.path m r).minSegs) ∧
          (fits → n ≤ list.length ∨ x.tag = .valid ∧ x.exporting = false →
            (t.mic m).trim = rec.trim ∧ (t.mic m).trimPending = rec.trim ∧ (t.mic m).talk.erle = rec.erle ∧
            (t.mic m).talk.settled = rec.settled ∧ (t.mic m).engine.sticky = rec.sticky ∧
            (∀ e ∈ live, (t.path m e.r).lead = e.lead ∧ (t.path m e.r).chain.length = e.chain.length ∧
              ∀ (p : Nat) (i j : SegIndex), (t.path m e.r).chain[p]? = some i → e.chain[p]? = some j →
                (t.segment i).coefs = (s.segment j).coefs) ∧
            (∀ r, (∀ e ∈ live, e.r ≠ r) → (t.path m r).chain = [] ∧ (t.path m r).lead = 0)) ∧
          (fits → n ≤ list.length → t.slot m k = x ∧
            live.flatMap (fun e => (t.path m e.r).chain) = list.take n ∧ t.freeList = list.drop n ∧
            s.keepsSegments (own ++ list.take n) t ∧ s.freesSegments own (list.take n) t ∧ t.chainsPlaced m) ∧
          (fits → list.length < n → x.tag = .valid → x.exporting = false →
            t.slot m k = { x with tag := .empty, record := none } ∧ (∀ e ∈ live, (t.path m e.r).chain = e.chain) ∧
            t.freeList = list ++ (rec.entries.filter fun e => !s.enabled m e.r).flatMap PathEntry.chain ∧
            s.keepsSegments (own ++ recorded) t ∧ s.freesSegments (own ++ recorded) (t.micSegments m) t ∧ t.chainsPlaced m) ∧
          (¬fits ∨ list.length < n ∧ ¬(x.tag = .valid ∧ x.exporting = false) →
            t.slot m k = x ∧ t.freeList = s.freeList ∧ (t.mic m).trim = (s.mic m).trim ∧
            (t.mic m).engine.sticky = (s.mic m).engine.sticky ∧ (t.mic m).talk.erle = (s.mic m).talk.erle ∧
            (t.mic m).talk.settled = false ∧
            (t.faultEntry .poolExhausted).count = min 65535 ((s.faultEntry .poolExhausted).count + 1) ∧
            (∀ r, (t.path m r).chain = (s.path m r).chain ∧ (t.path m r).lead = (s.path m r).lead) ∧
            ∀ i, t.segment i = if i ∈ own then { s.segment i with coefs := zeroCoefs } else s.segment i))) ∧
  ∀ (tag : Byte) (m : MicLane) (k : SlotIndex) (s : State), s.accepting → m.val < s.layout.mics → s.poolSound →
      let doHold : Instr := .ckptHold tag (byteOf m.val) (byteOf k.val)
      let doRelease : Instr := .ckptRelease tag (byteOf m.val) (byteOf k.val)
      let doDiscard : Instr := .ckptDiscard tag (byteOf m.val) (byteOf k.val)
      let doRecall : Instr := .ckptRecall tag (byteOf m.val) (byteOf k.val)
      let x := s.slot m k
      let answered := fun (kind : Byte) (st : Byte) (t : State) => ∃ rest,
        t.link.reply = some ⟨kind, tag, st :: rest⟩ ∧ t.showsRing m rest
      let unmoved := fun (i : Instr) (kind : Byte) (st : Byte) =>
        ∃ t, exec i s = .next t ∧ t = { s with link := t.link, drawn := t.drawn } ∧ answered kind st t
      let becomes := fun (i : Instr) (kind : Byte) (y : Slot) =>
        ∃ t, exec i s = .next t ∧ t.slot m k = y ∧ t = { s with link := t.link, mics := t.mics, drawn := t.drawn } ∧
          (∀ m' k', ¬(m' = m ∧ k' = k) → t.slot m' k' = s.slot m' k') ∧ answered kind 0#8 t
      (x.command ≠ none → unmoved doHold 0xA1#8 4#8 ∧ unmoved doRelease 0xA2#8 4#8 ∧ unmoved doDiscard 0xA3#8 4#8) ∧
      (x.command = none →
        (x.tag = .held → unmoved doHold 0xA1#8 0#8) ∧ (x.tag = .valid → unmoved doRelease 0xA2#8 0#8) ∧
        (x.tag = .empty → unmoved doDiscard 0xA3#8 0#8 ∧ unmoved doHold 0xA1#8 2#8 ∧ unmoved doRelease 0xA2#8 2#8) ∧
        (x.tag = .filling → unmoved doDiscard 0xA3#8 4#8 ∧ unmoved doHold 0xA1#8 2#8 ∧ unmoved doRelease 0xA2#8 2#8) ∧
        (x.exporting = true → x.tag = .valid ∨ x.tag = .held → unmoved doDiscard 0xA3#8 4#8) ∧
        (s.engine = .running →
          (x.tag = .valid → becomes doHold 0xA1#8 { x with command := some .hold }) ∧
          (x.tag = .held → becomes doRelease 0xA2#8 { x with command := some .release }) ∧
          (x.tag = .valid ∨ x.tag = .held → x.exporting = false →
            becomes doDiscard 0xA3#8 { x with command := some .discard })) ∧
        (s.engine = .parked →
          (x.tag = .valid → becomes doHold 0xA1#8 { x with tag := .held }) ∧
          (x.tag = .held → becomes doRelease 0xA2#8 { x with tag := .valid }) ∧
          (∀ rec, x.tag = .valid ∨ x.tag = .held → x.exporting = false → x.record = some rec →
            ∃ t, exec doDiscard s = .next t ∧ t.slot m k = { x with tag := .empty, record := none } ∧ t.paths = s.paths ∧
              (∀ m' k', ¬(m' = m ∧ k' = k) → t.slot m' k' = s.slot m' k') ∧
              t.freeList = s.freeList ++ rec.entries.flatMap PathEntry.chain ∧
              s.keepsSegments (rec.entries.flatMap PathEntry.chain) t ∧
              s.freesSegments (rec.entries.flatMap PathEntry.chain) [] t ∧ answered 0xA3#8 0#8 t))) ∧
      (x.tag = .empty ∨ x.tag = .filling → unmoved doRecall 0xA4#8 2#8) ∧
      (x.tag = .valid ∨ x.tag = .held → x.command ≠ none → unmoved doRecall 0xA4#8 4#8) ∧
      (∀ rec, x.tag = .valid ∨ x.tag = .held → x.record = some rec → x.command = none →
        let live := rec.entries.filter fun e => s.enabled m e.r
        let n := (live.map fun e => e.chain.length).sum
        let own := s.micSegments m
        let list := s.freeList ++ own
        let recorded := rec.entries.flatMap PathEntry.chain
        let fits := s.activeCount - s.micActive m + n ≤ 2048
        (s.engine = .running →
          ∃ t, exec doRecall s = .next t ∧ t = { s with link := t.link, mics := t.mics, drawn := t.drawn } ∧
            t.mic m = { s.mic m with ring := { (s.mic m).ring with recallPending := some k } } ∧
            (∀ m', m' ≠ m → t.mic m' = s.mic m') ∧ answered 0xA4#8 0#8 t) ∧
        (s.engine = .parked →
          ∃ t, exec doRecall s = .next t ∧ t.session = s.session ∧ t.layout = s.layout ∧ s.refreshesLines t ∧
            (∀ m', m' ≠ m → (t.mic m').ring = (s.mic m').ring ∧ (t.mic m').trim = (s.mic m').trim ∧
              ∀ r, t.path m' r = s.path m' r) ∧
            (∀ j, j ≠ k → t.slot m j = s.slot m j) ∧ t.queue = s.queue.filter (fun q => q.m != m) ∧
            (t.mic m).talk.talk = (s.mic m).talk.talk ∧ (t.mic m).out = (s.mic m).out ∧
            (t.mic m).ring.top = (s.mic m).ring.top ∧ (t.mic m).ring.interval = 0 ∧
            (t.mic m).ring.recallPending = none ∧ (t.mic m).talk.edSmooth = 0 ∧ (t.mic m).talk.eeSmooth = 0 ∧
            (t.mic m).talk.divCount = 0 ∧
            (∀ r, (t.path m r).openGates = 0 ∧ (t.path m r).granted = false ∧
              (t.path m r).maxSegs = (s.path m r).maxSegs ∧ (t.path m r).minSegs = (s.path m r).minSegs) ∧
            (fits → n ≤ list.length ∨ x.tag = .valid ∧ x.exporting = false →
              answered 0xA4#8 0#8 t ∧
              (t.mic m).trim = rec.trim ∧ (t.mic m).trimPending = rec.trim ∧ (t.mic m).talk.erle = rec.erle ∧
              (t.mic m).talk.settled = rec.settled ∧ (t.mic m).engine.sticky = rec.sticky ∧
              (∀ e ∈ live, (t.path m e.r).lead = e.lead ∧
                (t.path m e.r).chain.length = min e.chain.length (s.path m e.r).maxSegs ∧
                ∀ (p : Nat) (i j : SegIndex), (t.path m e.r).chain[p]? = some i → e.chain[p]? = some j →
                  (t.segment i).coefs = (s.segment j).coefs) ∧
              (∀ r, (∀ e ∈ live, e.r ≠ r) → (t.path m r).chain = [] ∧ (t.path m r).lead = 0)) ∧
            (fits → n ≤ list.length →
              t.slot m k = x ∧ s.keepsSegments (own ++ list.take n) t ∧ s.freesSegments own (list.take n) t ∧
              t.chainsPlaced m ∧
              (∀ i ∈ list.take n, i ∉ t.micSegments m → (t.segment i).owner = .free ∧ (t.segment i).energy = 0) ∧
              ((∀ e ∈ live, e.chain.length ≤ (s.path m e.r).maxSegs) →
                live.flatMap (fun e => (t.path m e.r).chain) = list.take n ∧ t.freeList = list.drop n)) ∧
            (fits → list.length < n → x.tag = .valid → x.exporting = false →
              t.slot m k = { x with tag := .empty, record := none } ∧ s.keepsSegments (own ++ recorded) t ∧
              s.freesSegments (own ++ recorded) (t.micSegments m) t ∧ t.chainsPlaced m ∧
              (∀ e ∈ live, (t.path m e.r).chain = e.chain.take (s.path m e.r).maxSegs) ∧
              ((∀ e ∈ live, e.chain.length ≤ (s.path m e.r).maxSegs) →
                t.freeList = list ++ (rec.entries.filter fun e => !s.enabled m e.r).flatMap PathEntry.chain)) ∧
            (¬fits ∨ list.length < n ∧ ¬(x.tag = .valid ∧ x.exporting = false) →
              answered 0xA4#8 6#8 t ∧ t.slot m k = x ∧ t.freeList = s.freeList ∧
              (t.mic m).trim = (s.mic m).trim ∧ (t.mic m).engine.sticky = (s.mic m).engine.sticky ∧
              (t.mic m).talk.erle = (s.mic m).talk.erle ∧ (t.mic m).talk.settled = false ∧
              (t.faultEntry .poolExhausted).count = min 65535 ((s.faultEntry .poolExhausted).count + 1) ∧
              (∀ r, (t.path m r).chain = (s.path m r).chain ∧ (t.path m r).lead = (s.path m r).lead) ∧
              ∀ i, t.segment i = if i ∈ own then { s.segment i with coefs := zeroCoefs } else s.segment i)))

/-! ## The Segment Pool -/

/-- Every step keeps the Segment Pool whole: each segment at one chain position, at one slot position or in one place
of the free list (R60, R62), the three counts adding up to 3072 (R61), at most 2048 segments ACTIVE (R66), chains of
at most 80 segments and lead delays of at most 2047 (R67), a disabled path without a chain (R71), slots that agree
with their tags and the session (R104, R132), a growth queue of at most 64 requests with at most one for each path
(R93), and the owner of every segment the place it stands in, FREE, ACTIVE or CHECKPOINT with microphone, slot, lane and
position, a FREE or CHECKPOINT segment having energy 0 (R60, R67). -/
def Obligations.StepsKeepThePoolSound : Prop :=
  ∀ s t : State, s.poolSound → step s = .next t → t.poolSound

/-! ## Image requests (Chapter 7) -/

/-- IMAGE.EXPORT, IMAGE.READ and IMAGE.CLOSE (R129, R130, R135): an export opens on a record with segments and marks
its slot; a READ carries the coefficients of its chunk, advances the cursor and clears the idle count, and the READ of
the last chunk ends the session; an export with no segments ends at the acceptance that opens it, and a record with no
path entries is refused with REFUSED_STATE; a CLOSE ends the session, the reserved segments of an import returning to
the free list, FREE with energy 0 (R64), and every other segment keeping coefficients, energy and owner; and each request is refused where there is nothing to act on. -/
def Obligations.ExportReadsARecord : Prop :=
  ∀ (tag : Byte) (s : State), s.accepting →
      (∀ (m : MicLane) (k : SlotIndex) (rec : CkptRecord), m.val < s.layout.mics → s.session = none →
        (s.slot m k).tag = .valid ∨ (s.slot m k).tag = .held → (s.slot m k).record = some rec → rec.entries ≠ [] →
        0 < entriesSegments rec.entries →
          ∃ t x, exec (.imageExport tag (byteOf m.val) (byteOf k.val)) s = .next t ∧ t.session = some x ∧
            x.kind = .exporting ∧ x.m = m ∧ x.slot = k ∧ x.entries = rec.entries ∧ x.cursor = 0 ∧ x.idle = 0 ∧
            t.slot m k = { s.slot m k with exporting := true } ∧ s.changesSlot m k t ∧
            t = { s with link := t.link, mics := t.mics, session := t.session } ∧
            s.repliedTo ⟨0x28#8, tag, [byteOf m.val, byteOf k.val]⟩
              (0#8 :: (le4 rec.sequence.toNat ++ le2 (entriesSegments rec.entries) ++
                byteOf ((entriesSegments rec.entries + 3) / 4) :: rec.header)) t) ∧
      (∀ (m : MicLane) (k : SlotIndex) (rec : CkptRecord), m.val < s.layout.mics → s.session = none →
        (s.slot m k).tag = .valid ∨ (s.slot m k).tag = .held → (s.slot m k).record = some rec →
        (rec.entries = [] →
          ∃ t, exec (.imageExport tag (byteOf m.val) (byteOf k.val)) s = .next t ∧ t = { s with link := t.link } ∧
            s.repliedTo ⟨0x28#8, tag, [byteOf m.val, byteOf k.val]⟩ [2#8] t) ∧
        (rec.entries ≠ [] → entriesSegments rec.entries = 0 →
          ∃ t, exec (.imageExport tag (byteOf m.val) (byteOf k.val)) s = .next t ∧
            t = { s with link := t.link, mics := t.mics } ∧
            t.slot m k = { s.slot m k with exporting := false } ∧
            s.changesSlot m k t ∧
            t.link.reply = some ⟨0xA8#8, tag,
              0#8 :: (le4 rec.sequence.toNat ++ 0#8 :: 0#8 :: 0#8 :: rec.header)⟩)) ∧
      (∀ x : Session, s.session = some x → x.kind = .exporting → x.cursor + 1 < x.chunks →
        ∃ t, exec (.imageRead tag) s = .next t ∧
          t = { s with link := t.link, session := some { x with cursor := x.cursor + 1, idle := 0 } } ∧
          s.repliedTo ⟨0x29#8, tag, []⟩
            (0#8 :: (le2 x.cursor ++ (((x.entries.flatMap PathEntry.chain).drop (4 * x.cursor)).take 4).flatMap
              fun i => (s.segment i).coefs.toList.flatMap fun w => leBytes 3 (BitVec.ofInt 24 w).toNat)) t) ∧
      (∀ x : Session, s.session = some x → x.kind = .exporting → x.chunks ≤ x.cursor + 1 →
        ∃ t, exec (.imageRead tag) s = .next t ∧ t.session = none ∧
          t = { s with link := t.link, mics := t.mics, session := t.session } ∧
          t.slot x.m x.slot = { s.slot x.m x.slot with exporting := false } ∧
          s.changesSlot x.m x.slot t ∧
          t.link.reply = some ⟨0xA9#8, tag,
            0#8 :: (le2 x.cursor ++ (((x.entries.flatMap PathEntry.chain).drop (4 * x.cursor)).take 4).flatMap
              fun i => (s.segment i).coefs.toList.flatMap fun w => leBytes 3 (BitVec.ofInt 24 w).toNat)⟩) ∧
      (∀ x : Session, s.session = some x →
        ∃ t, exec (.imageClose tag) s = .next t ∧
          t = { s with link := t.link, mics := t.mics, session := none, pool := t.pool, freeList := t.freeList } ∧
          s.changesSlot x.m x.slot t ∧
          (x.kind = .exporting → t.slot x.m x.slot = { s.slot x.m x.slot with exporting := false } ∧
            t.pool = s.pool ∧ t.freeList = s.freeList) ∧
          (x.kind = .importing →
            t.slot x.m x.slot = { s.slot x.m x.slot with tag := .empty, record := none } ∧
            t.freeList = s.freeList ++ x.entries.flatMap PathEntry.chain ∧
            s.keepsSegments (x.entries.flatMap PathEntry.chain) t ∧
            s.freesSegments (x.entries.flatMap PathEntry.chain) [] t) ∧
          t.link.reply = some ⟨0xAC#8, tag, [0#8]⟩) ∧
      ((∀ x : Session, s.session = some x → x.kind = .importing) →
        ∃ t, exec (.imageRead tag) s = .next t ∧
          t = { s with link := t.link, session := s.session.map fun x => { x with idle := 0 } } ∧
          s.repliedTo ⟨0x29#8, tag, []⟩ [2#8] t) ∧
      (∀ (m : MicLane) (k : SlotIndex), m.val < s.layout.mics →
        s.session ≠ none ∨ s.session = none ∧ ((s.slot m k).tag = .empty ∨ (s.slot m k).tag = .filling) →
        ∃ t, exec (.imageExport tag (byteOf m.val) (byteOf k.val)) s = .next t ∧ t = { s with link := t.link } ∧
          s.repliedTo ⟨0x28#8, tag, [byteOf m.val, byteOf k.val]⟩ [if s.session = none then 2#8 else 4#8] t) ∧
      (s.session = none →
        ∃ t, exec (.imageClose tag) s = .next t ∧ t = { s with link := t.link } ∧
          s.repliedTo ⟨0x2C#8, tag, []⟩ [2#8] t)

/-- IMAGE.IMPORT (R131, R132): on an EMPTY slot, or a VALID one whose record it releases, with a well-formed header of
S segments and S segments free, the session opens, the slot is FILLING and the S head segments of the free list are
taken from it, run by run in header order, zero-filled and owned by the slot, lane and position of each (R132), while a
segment neither released nor reserved keeps coefficients, energy and owner; with S = 0 the import completes at once, and its reply carries the record's
new sequence number (R134). It is refused with a session open, on a HELD or FILLING slot, with a failing header and
without room, which counts the segments of a VALID slot's record (IMAGE_REJECT is counted for both, and in PARKED every output line then shows its source, R168). A header is well
formed where its format version is 1, its path count p is 1 to 4 and its length 5 + 4p, bits 4 to 7 of its flags are
0, its trim step is at most 15 and its ERLE index at most 40, its lanes are configured and distinct, and no lead delay
exceeds 2047 and no segment count 80 (R131). -/
def Obligations.ImportReservesItsRoom : Prop :=
  (∀ (l : Layout) (h : List Byte), l.refs ≤ 4 →
    let byte := fun k : Nat => (h.getD k 0#8).toNat
    (headerFailure l h = none ↔
      byte 0 = 1 ∧ 1 ≤ byte 4 ∧ byte 4 ≤ 4 ∧ h.length = 5 + 4 * byte 4 ∧ byte 3 < 16 ∧ byte 1 ≤ 15 ∧ byte 2 ≤ 40 ∧
      ∀ e < byte 4, byte (5 + 4 * e) < l.refs ∧ (∀ e' < e, byte (5 + 4 * e') ≠ byte (5 + 4 * e)) ∧
        byte (6 + 4 * e) + 256 * byte (7 + 4 * e) ≤ 2047 ∧ byte (8 + 4 * e) ≤ 80) ∧
    headerSegments h = ((List.range (byte 4)).map fun e => byte (8 + 4 * e)).sum) ∧
  (∀ (tag : Byte) (m : MicLane) (k : SlotIndex) (h : List Byte) (s : State), s.accepting → m.val < s.layout.mics →
    9 ≤ h.length → h.length ≤ 21 →
    let i : Instr := .imageImport tag (byteOf m.val) (byteOf k.val) h
    let f : Frame := ⟨0x2A#8, tag, byteOf m.val :: byteOf k.val :: h⟩
    let byte := fun k : Nat => (h.getD k 0#8).toNat
    (∀ (gone : List SegIndex) (sequence : Nat), s.session = none →
      (s.slot m k = Slot.blank ∧ gone = [] ∧ sequence = 0 ∨
        ∃ rec, s.slot m k = ⟨.valid, false, some rec, none⟩ ∧ gone = rec.entries.flatMap PathEntry.chain ∧
          sequence = rec.sequence.toNat) →
      headerFailure s.layout h = none →
      (s.freeCount + gone.length < headerSegments h →
        ∃ t, exec i s = .next t ∧
          t.link.reply = some ⟨0xAA#8, tag, 6#8 :: (le2 (headerSegments h) ++ le2 (s.freeCount + gone.length))⟩ ∧
          t = { s with drawn := t.drawn, mics := t.mics, outLines := t.outLines, link := t.link, phase := t.phase } ∧
          (∀ m' k', t.slot m' k' = s.slot m' k') ∧
          (s.engine = .parked → s.phase = .sampling → s.refreshesLines t) ∧
          (t.faultEntry .imageReject).count = min 65535 ((s.faultEntry .imageReject).count + 1)) ∧
      (headerSegments h = 0 →
        ∃ t rec, exec i s = .next t ∧
          t = { s with
            link := t.link, mics := t.mics, pool := t.pool, freeList := t.freeList, pushSequence := t.pushSequence } ∧
          t.freeList = s.freeList ++ gone ∧ t.slot m k = ⟨.valid, false, some rec, none⟩ ∧
          s.changesSlot m k t ∧ s.keepsSegments gone t ∧ s.freesSegments gone [] t ∧
          t.pushSequence = (if s.pushSequence = 4294967295#32 then 1#32 else s.pushSequence + 1#32) ∧
          rec.sequence = t.pushSequence ∧ rec.frame = s.frameCounter ∧ rec.trim = byte 1 ∧ rec.erle = byte 2 ∧
          rec.settled = (h.getD 3 0#8).getLsbD 0 ∧
          rec.sticky = ⟨(h.getD 3 0#8).getLsbD 1, (h.getD 3 0#8).getLsbD 2, (h.getD 3 0#8).getLsbD 3⟩ ∧
          rec.rollbacks = 0 ∧ (rec.entries.map fun e => e.r.val).Pairwise (· < ·) ∧
          (∀ e : PathEntry, e ∈ rec.entries ↔ e.chain = [] ∧
            ((∃ j < byte 4, e.r.val = byte (5 + 4 * j) ∧ e.lead = byte (6 + 4 * j) + 256 * byte (7 + 4 * j)) ∨
              e.lead = 0 ∧ s.enabled m e.r = true ∧ ∀ j < byte 4, byte (5 + 4 * j) ≠ e.r.val)) ∧
          t.link.reply = some ⟨0xAA#8, tag,
            0#8 :: 0#8 :: 0#8 :: 0#8 :: (le4 sequence ++ le4 rec.sequence.toNat)⟩) ∧
      (0 < headerSegments h → headerSegments h ≤ s.freeCount + gone.length →
      let reserved := (s.freeList ++ gone).take (headerSegments h)
      ∃ t x, exec i s = .next t ∧ t.session = some x ∧ x.kind = .importing ∧ x.m = m ∧ x.slot = k ∧ x.cursor = 0 ∧
        x.idle = 0 ∧ x.entries.flatMap PathEntry.chain = reserved ∧
        (x.entries.map fun e => (e.r.val, e.lead, e.chain.length)) = (List.range (byte 4)).map (fun e =>
          (byte (5 + 4 * e), byte (6 + 4 * e) + 256 * byte (7 + 4 * e), byte (8 + 4 * e))) ∧
        x.trim = byte 1 ∧ x.erle = byte 2 ∧ x.settled = (h.getD 3 0#8).getLsbD 0 ∧
        x.sticky = ⟨(h.getD 3 0#8).getLsbD 1, (h.getD 3 0#8).getLsbD 2, (h.getD 3 0#8).getLsbD 3⟩ ∧
        t = { s with
          link := t.link, mics := t.mics, pool := t.pool, freeList := t.freeList, session := t.session } ∧
        t.freeList = (s.freeList ++ gone).drop (headerSegments h) ∧ t.slot m k = ⟨.filling, false, none, none⟩ ∧
        s.changesSlot m k t ∧ s.keepsSegments (gone ++ reserved) t ∧ s.freesSegments gone reserved t ∧
        (∀ i ∈ reserved, (t.segment i).coefs = zeroCoefs ∧ (t.segment i).energy = 0) ∧
        ((s.freeList ++ gone).Nodup → ∀ e ∈ x.entries, ∀ (p : Nat) (i : SegIndex), e.chain[p]? = some i →
          (t.segment i).owner = .checkpoint m k e.r p) ∧
        t.link.reply = some ⟨0xAA#8, tag, 0#8 ::
          (le2 (headerSegments h) ++ byteOf ((headerSegments h + 3) / 4) :: le4 sequence)⟩)) ∧
    (s.session ≠ none → ∃ t, exec i s = .next t ∧ t = { s with link := t.link } ∧ s.repliedTo f [4#8] t) ∧
    (s.session = none → (s.slot m k).tag = .held ∨ (s.slot m k).tag = .filling →
      ∃ t, exec i s = .next t ∧ t = { s with link := t.link } ∧ s.repliedTo f [2#8] t) ∧
    (s.session = none → (s.slot m k).tag = .empty ∨ (s.slot m k).tag = .valid →
      (headerFailure s.layout h ≠ none →
        ∃ t, exec i s = .next t ∧ t.link.reply = some ⟨0xAA#8, tag, [3#8]⟩ ∧
          t = { s with drawn := t.drawn, mics := t.mics, outLines := t.outLines, link := t.link, phase := t.phase } ∧
          (∀ m' k', t.slot m' k' = s.slot m' k') ∧
          (s.engine = .parked → s.phase = .sampling → s.refreshesLines t) ∧
          (t.faultEntry .imageReject).count = min 65535 ((s.faultEntry .imageReject).count + 1))))

/-- IMAGE.WRITE (R133, R134): a chunk at the cursor of the right length is written into its reserved segments and the
cursor advances; the last chunk is written too and completes the import, whose record takes the next push sequence
number and holds, in ascending reference lane, the header's entries with their reserved segments and an empty one for
each enabled path the header does not list; any other chunk is refused with REFUSED_RANGE and the expected cursor, and
nothing is written. With no session open, or an export, a write is refused with REFUSED_STATE and changes nothing but
the idle count of the open session (R127). -/
def Obligations.WritesFillTheReservation : Prop :=
  (∀ (tag : Byte) (index : BitVec 16) (data : List Byte) (s : State), s.accepting →
      (Instr.imageWrite tag index data).wellFormed = true → (∀ x, s.session = some x → x.kind = .exporting) →
      ∃ t, exec (.imageWrite tag index data) s = .next t ∧
        t = { s with link := t.link, session := s.session.map fun x => { x with idle := 0 } } ∧
        s.repliedTo ⟨0x2B#8, tag, le2 index.toNat ++ data⟩ [2#8] t) ∧
  ∀ (tag : Byte) (index : BitVec 16) (data : List Byte) (x : Session) (s : State), s.accepting →
      (Instr.imageWrite tag index data).wellFormed = true → s.session = some x → x.kind = .importing →
      ((index.toNat = x.cursor ∧ data.length = 192 * (x.chunk x.cursor).length) → x.cursor + 1 < x.chunks →
        (x.chunk x.cursor).Nodup →
        ∃ t, exec (.imageWrite tag index data) s = .next t ∧
          t = { s with link := t.link, pool := t.pool, session := some { x with cursor := x.cursor + 1, idle := 0 } } ∧
          (∀ (q : Nat) (i : SegIndex) (j : Fin 64), (x.chunk x.cursor)[q]? = some i →
            (t.segment i).coefs.get j =
              (BitVec.ofNat 24 (ofLeBytes ((data.drop (192 * q + 3 * j.val)).take 3))).toInt) ∧
          (∀ i, i ∉ x.chunk x.cursor → t.segment i = s.segment i) ∧
          t.link.reply = some ⟨0xAB#8, tag,
            0#8 :: (le2 (x.cursor + 1) ++ [byteOf (x.chunks - (x.cursor + 1))])⟩) ∧
      ((index.toNat = x.cursor ∧ data.length = 192 * (x.chunk x.cursor).length) → x.chunks ≤ x.cursor + 1 →
        ∃ t rec, exec (.imageWrite tag index data) s = .next t ∧ t.session = none ∧ t.paths = s.paths ∧
          t.freeList = s.freeList ∧
          ((x.chunk x.cursor).Nodup → ∀ (q : Nat) (i : SegIndex) (j : Fin 64), (x.chunk x.cursor)[q]? = some i →
            (t.segment i).coefs.get j =
              (BitVec.ofNat 24 (ofLeBytes ((data.drop (192 * q + 3 * j.val)).take 3))).toInt) ∧
          (∀ i, i ∉ x.chunk x.cursor → t.segment i = s.segment i) ∧
          ((x.entries.map PathEntry.r).Nodup → (∀ e, e ∈ rec.entries ↔ e ∈ x.entries ∨
              e.lead = 0 ∧ e.chain = [] ∧ s.enabled x.m e.r = true ∧ ∀ e' ∈ x.entries, e'.r ≠ e.r) ∧
            (rec.entries.map fun e => e.r.val).Pairwise (· < ·)) ∧
          t.pushSequence = (if s.pushSequence = 4294967295#32 then 1#32 else s.pushSequence + 1#32) ∧
          t.slot x.m x.slot = { s.slot x.m x.slot with tag := .valid, record := some rec } ∧
          rec.sequence = t.pushSequence ∧ rec.frame = s.frameCounter ∧ rec.trim = x.trim ∧ rec.erle = x.erle ∧
          rec.settled = x.settled ∧ rec.sticky = x.sticky ∧ rec.rollbacks = 0 ∧
          t.link.reply = some ⟨0xAB#8, tag,
            0#8 :: (le2 (x.cursor + 1) ++ 0#8 :: le4 rec.sequence.toNat)⟩) ∧
      (¬(index.toNat = x.cursor ∧ data.length = 192 * (x.chunk x.cursor).length) →
        ∃ t, exec (.imageWrite tag index data) s = .next t ∧
          t = { s with link := t.link, session := some { x with idle := 0 } } ∧
          s.repliedTo ⟨0x2B#8, tag, le2 index.toNat ++ data⟩
            (3#8 :: (le2 x.cursor ++ [byteOf (x.chunks - x.cursor)])) t)

/-! ## Queries -/

/-- QUERY.MIC returns the fields of Table 3-5 in the table's order and changes nothing (R58). That the halt bit shows an
IMAGE_REJECT accepted while RUNNING before the next frame end is assumption 45's reading, and that a frame end standing
open between two of its events shows what its work has so far left is assumption 49's. -/
def Obligations.QueryMicReturnsTheRecord : Prop :=
  ∀ (tag : Byte) (m : MicLane) (s : State), s.accepting → m.val < s.layout.mics →
      ∃ t, exec (.queryMic tag (byteOf m.val)) s = .next t ∧ t = { s with link := t.link } ∧
        s.repliedTo ⟨0x30#8, tag, [byteOf m.val]⟩
          ([0#8, byteOf m.val, byteOf (s.mic m).talk.talk.code, byteOf (s.mic m).talk.mode.code,
            byteOf ((if (s.mic m).talk.freeze then 1 else 0) + (if (s.mic m).talk.freezePending then 2 else 0) +
              (if (s.mic m).talk.levelHold then 4 else 0) + (if (s.mic m).talk.halt then 8 else 0)),
            byteOf (s.mic m).holdSpan, byteOf (s.mic m).talk.nearHang, byteOf (s.mic m).talk.farHang,
            byteOf (s.mic m).talk.erle, (if (s.mic m).talk.settled then 1#8 else 0#8), byteOf (s.mic m).talk.divCount,
            byteOf ((if (s.mic m).engine.sticky.coef then 1 else 0) + (if (s.mic m).engine.sticky.est then 2 else 0) +
              (if (s.mic m).engine.sticky.err then 4 else 0)),
            byteOf (s.mic m).trim, byteOf (s.mic m).trimPending] ++
          le4 (s.mic m).engine.ed ++ le4 (s.mic m).engine.ey ++ le4 (s.mic m).engine.ee ++
          le4 (s.mic m).talk.edSmooth ++ le4 (s.mic m).talk.eeSmooth ++ le4 (s.mic m).out.floor ++
          le2 (s.mic m).out.gain ++
          [byteOf ((if (s.mic m).out.mute then 1 else 0) + (if (s.mic m).out.lineMute then 2 else 0)),
            byteOf (s.mic m).out.source.code] ++
          le4 s.frameCounter.toNat) t

/-- QUERY.POOL and QUERY.PATH change nothing (R81, R82): the pool's reply carries the sizes, the counts, the ends of
the free list, the queue's length and each microphone's two counts, 83 bytes after the status, and a named segment's
record follows where its index is at most 3071; a path's reply carries the fields of its table, 43 + 2c bytes after
the status, and a path that is not enabled is refused. That the fill count is the one the last frame end or acceptance
left is assumption 43's reading of R82, and that within a frame end standing open between two of its events each value
is the one its work has so far left is the model's choice (assumption 49). -/
def Obligations.PoolAndPathQueries : Prop :=
  ∀ (tag : Byte) (s : State), s.accepting →
      let pool := [0#8, 0x00#8, 0x0C#8, 0x00#8, 0x08#8] ++ le2 s.freeCount ++ le2 s.activeCount ++ le2 s.checkpointCount ++
        le2 (if h : s.freeList = [] then 0xFFFF else (s.freeList.head h).val) ++
        le2 (if h : s.freeList = [] then 0xFFFF else (s.freeList.getLast h).val) ++
        byteOf s.queue.length :: (allMics.flatMap (fun m => le2 (s.micActive m)) ++
          allMics.flatMap (fun m => le2 (s.micCheckpoint m)) ++ le4 s.frameCounter.toNat)
      pool.length = 84 ∧
      (∃ t, exec (.queryPool tag none) s = .next t ∧ t = { s with link := t.link } ∧
        s.repliedTo ⟨0x31#8, tag, []⟩ pool t) ∧
      (∀ x : BitVec 16, 3071 < x.toNat →
        ∃ t, exec (.queryPool tag (some x)) s = .next t ∧ t = { s with link := t.link } ∧
          s.repliedTo ⟨0x31#8, tag, le2 x.toNat⟩ [3#8] t) ∧
      (∀ i : SegIndex, ∃ t place,
        exec (.queryPool tag (some (BitVec.ofNat 16 i.val))) s = .next t ∧ t = { s with link := t.link } ∧
          s.repliedTo ⟨0x31#8, tag, le2 i.val⟩
            (pool ++ le2 i.val ++ (match (s.segment i).owner with
              | .free => [0#8, 255#8, 255#8, 255#8, 255#8]
              | .active m r p => [1#8, byteOf m.val, byteOf r.val, byteOf p, 255#8]
              | .checkpoint m k r p => [2#8, byteOf m.val, byteOf r.val, byteOf p, byteOf k.val]) ++
              leBytes 5 (s.segment i).energy ++ le2 place) t ∧
          ((s.segment i).owner ≠ .free → place = 0xFFFF) ∧
          ((s.segment i).owner = .free → i ∈ s.freeList → s.freeList[place]? = some i)) ∧
      (∀ m r, s.enabled m r = true →
        let x := s.path m r
        let energy := fun i : SegIndex => (s.segment i).energy
        ∃ t bytes, exec (.queryPath tag (byteOf m.val) (byteOf r.val)) s = .next t ∧ t = { s with link := t.link } ∧
          bytes.length = 43 ∧
          (∀ q : Option GrowRequest, (q = none ∧ (∀ y ∈ s.queue, ¬(y.m = m ∧ y.r = r)) ∨
              ∃ y, q = some y ∧ s.queue.filter (fun z => z.m == m && z.r == r) = [y]) →
            bytes = byteOf m.val :: byteOf r.val ::
              byteOf ((if x.pinned then 1 else 0) + (if q = none then 0 else 2) +
                (if q.map GrowRequest.kind = some .head then 4 else 0) + (if x.limits = none then 0 else 8) +
                (if x.limits.map PendingLimits.pinned = some true then 16 else 0) + (if x.gate then 32 else 0)) ::
              byteOf x.minSegs :: byteOf x.maxSegs :: byteOf s.layout.initialSegs ::
              (le2 x.lead ++ byteOf x.chain.length :: (le2 (64 * x.chain.length) ++
                (match x.limits with
                  | some y => byteOf y.minSegs :: byteOf y.maxSegs :: le2 (y.lead.getD 0xFFFF)
                  | none => [0#8, 0#8, 0xFF#8, 0xFF#8]) ++
                le4 x.gain ++ le4 (s.ref r).power ++ le2 (s.fillsShown.get r) ++
                [byteOf x.openGates, byteOf (match q with
                  | some y => y.waited
                  | none => 0)] ++
                leBytes 6 (x.chain.map energy).sum ++
                leBytes 5 (if h : x.chain = [] then 0 else energy (x.chain.head h)) ++
                leBytes 5 (if h : x.chain = [] then 0 else energy (x.chain.getLast h))))) ∧
          s.repliedTo ⟨0x32#8, tag, [byteOf m.val, byteOf r.val]⟩
            (0#8 :: (bytes ++ (s.path m r).chain.flatMap fun i => le2 i.val)) t) ∧
      (∀ mic ref : Byte, (∀ (m : MicLane) (r : RefLane), mic = byteOf m.val → ref = byteOf r.val →
          s.enabled m r = false) →
        ∃ t, exec (.queryPath tag mic ref) s = .next t ∧ t = { s with link := t.link } ∧
          s.repliedTo ⟨0x32#8, tag, [mic, ref]⟩ [3#8] t)

/-! ## Line requests (Chapter 10) -/

/-- LINE.SET (R166): an accepted input or output entry becomes the line's pending entry while RUNNING, and the line's
entry at once in PARKED, where an input line's latch, pulse and active flag are cleared. The other lines keep their
entries, and nothing of the microphones moves in PARKED but the modes, which follow their causes (R56). Every output
line, the one whose entry is set with its new entry among them, then shows its source (R168; no frame end stands open in
PARKED, as queueSound says and StepsKeepThePoolSound keeps). Any other request is refused with REFUSED_RANGE. LINE.PULSE
sets the pulse of a line with an event action while RUNNING, and is refused with REFUSED_STATE while PARKED or for NONE
and the level actions (R167); that a line above 7 is answered REFUSED_RANGE while PARKED too is the model's choice of
which check comes first (assumption 11). LINE.GET returns 6 bytes for each input line, 4 for each output line and the
frame counter, 68 bytes after the status, and changes nothing (R169). The entries LINE.SET accepts are the readings of
its bytes that R162 and R166 give: an action code of at most 8 and its argument in range, LEVEL for the level actions
and an edge mode for the event actions; that any other action's argument is 0 is assumption 23. A frame end makes the
pending entry of an output line current (R166); FrameEndDrivesTheOutputLines says so of an input line. -/
def Obligations.LineRequestsActOnTheirLine : Prop :=
  (∀ (k : OutLineIndex) (w : FrameWork) (s : State), s.phase = .taking w →
      let t := s.runTask (.outEntry k) w
      ((s.outLines.get k).pendingEntry = none → t = s) ∧
      ∀ e, (s.outLines.get k).pendingEntry = some e →
        t = { s with outLines := t.outLines } ∧
        t.outLines.get k = { s.outLines.get k with entry := e, pendingEntry := none } ∧
        ∀ k', k' ≠ k → t.outLines.get k' = s.outLines.get k') ∧
  (∀ (tag flags code argument : Byte) (mask : BitVec 16) (s : State), s.accepting →
       (∀ (k : InLineIndex) (e : InEntry), inEntryOperand flags code argument mask = some e →
         let entry := 0#8 :: byteOf k.val :: flags :: code :: argument :: le2 mask.toNat
         ∃ t, exec (.lineSet tag 0#8 (byteOf k.val) flags code argument mask) s = .next t ∧
           s.repliedTo ⟨0x40#8, tag, entry⟩ (0#8 :: entry) t ∧
           (s.engine = .running →
             t = { s with link := t.link, inLines := t.inLines } ∧
             t.inLines.get k = { s.inLines.get k with pendingEntry := some e } ∧
             ∀ k', k' ≠ k → t.inLines.get k' = s.inLines.get k') ∧
           (s.engine = .parked →
             t = { s with link := t.link, mics := t.mics, inLines := t.inLines, outLines := t.outLines } ∧
             t.inLines.get k = { s.inLines.get k with
               entry := e, pendingEntry := none, latch := false, pulse := false, active := false } ∧
             (∀ k', k' ≠ k → t.inLines.get k' = s.inLines.get k') ∧ s.movesModesAlone t ∧
             (∀ k', t.outLines.get k' = { s.outLines.get k' with value := (t.outLines.get k').value }) ∧
             (s.phase = .sampling → t.outLinesShow))) ∧
       (∀ (k : OutLineIndex) (e : OutEntry), outEntryOperand flags code argument mask = some e →
         let entry := 1#8 :: byteOf k.val :: flags :: code :: argument :: le2 mask.toNat
         ∃ t, exec (.lineSet tag 1#8 (byteOf k.val) flags code argument mask) s = .next t ∧
           s.repliedTo ⟨0x40#8, tag, entry⟩ (0#8 :: entry) t ∧
           (s.engine = .running →
             t = { s with link := t.link, outLines := t.outLines } ∧
             t.outLines.get k = { s.outLines.get k with pendingEntry := some e } ∧
             ∀ k', k' ≠ k → t.outLines.get k' = s.outLines.get k') ∧
           (s.engine = .parked →
             t = { s with link := t.link, mics := t.mics, outLines := t.outLines } ∧
             (t.outLines.get k).entry = e ∧ (t.outLines.get k).pendingEntry = none ∧
             (∀ k', k' ≠ k → t.outLines.get k' = { s.outLines.get k' with value := (t.outLines.get k').value }) ∧
             s.movesModesAlone t ∧ (s.phase = .sampling → t.outLinesShow))) ∧
       (∀ kind line : Byte,
         (1 < kind.toNat ∨ kind = 0#8 ∧ (7 < line.toNat ∨ inEntryOperand flags code argument mask = none) ∨
           kind = 1#8 ∧ (3 < line.toNat ∨ outEntryOperand flags code argument mask = none)) →
         ∃ t, exec (.lineSet tag kind line flags code argument mask) s = .next t ∧ t = { s with link := t.link } ∧
           s.repliedTo ⟨0x40#8, tag, kind :: line :: flags :: code :: argument :: le2 mask.toNat⟩ [3#8] t)) ∧
  (∀ (tag : Byte) (s : State), s.accepting →
       (∀ k : InLineIndex, s.engine = .running →
         (s.inLines.get k).entry.action ∉ [LineAction.none, .holdLevel, .muteLevel] →
         ∃ t, exec (.linePulse tag (byteOf k.val)) s = .next t ∧ t = { s with link := t.link, inLines := t.inLines } ∧
           t.inLines.get k = { s.inLines.get k with pulse := true } ∧
           (∀ k', k' ≠ k → t.inLines.get k' = s.inLines.get k') ∧
           s.repliedTo ⟨0x41#8, tag, [byteOf k.val]⟩ [0#8, byteOf k.val] t) ∧
       (∀ k : InLineIndex, s.engine = .parked ∨
           (s.inLines.get k).entry.action ∈ [LineAction.none, .holdLevel, .muteLevel] →
         ∃ t, exec (.linePulse tag (byteOf k.val)) s = .next t ∧ t = { s with link := t.link } ∧
           s.repliedTo ⟨0x41#8, tag, [byteOf k.val]⟩ [2#8] t) ∧
       (∀ line : Byte, 7 < line.toNat →
         ∃ t, exec (.linePulse tag line) s = .next t ∧ t = { s with link := t.link } ∧
           s.repliedTo ⟨0x41#8, tag, [line]⟩ [3#8] t) ∧
       ∃ (t : State) (span : InLineIndex → Nat),
         exec (.lineGet tag) s = .next t ∧ t = { s with link := t.link } ∧
         (∀ k : InLineIndex,
           let e := (s.inLines.get k).entry
           (e.action ≠ .holdSpan → span k = 0) ∧
           (e.action = .holdSpan →
             (∀ m : MicLane, m.val < s.layout.mics → e.mask.getLsbD m.val = true → (s.mic m).holdSpan ≤ span k) ∧
             (span k = 0 ∨ ∃ m : MicLane, m.val < s.layout.mics ∧ e.mask.getLsbD m.val = true ∧
               (s.mic m).holdSpan = span k))) ∧
         s.repliedTo ⟨0x42#8, tag, []⟩
           (0#8 :: (allInLines.flatMap (fun k =>
               let x := s.inLines.get k
               byteOf ((if x.entry.invert then 1 else 0) + 2 * x.entry.edge.code +
                 (if x.pendingEntry = none then 0 else 8) + (if x.last then 16 else 0) + (if x.latch then 32 else 0) +
                 (if x.pulse then 64 else 0) + (if x.active then 128 else 0)) ::
               byteOf x.entry.action.code :: byteOf x.entry.argument :: (le2 x.entry.mask.toNat ++ [byteOf (span k)])) ++
             allOutLines.flatMap (fun k =>
               let x := s.outLines.get k
               byteOf x.entry.source.code ::
                 byteOf ((if x.entry.invert then 1 else 0) + (if x.pendingEntry = none then 0 else 2) +
                   (if x.value then 4 else 0)) :: le2 x.entry.mask.toNat) ++
             le4 s.frameCounter.toNat)) t) ∧
  (∀ (flags code argument : Byte) (mask : BitVec 16),
     (∀ e : InEntry, inEntryOperand flags code argument mask = some e ↔
       flags.toNat < 8 ∧ e.invert = flags.getLsbD 0 ∧ e.edge.code = flags.toNat / 2 ∧ e.action.code = code.toNat ∧
       e.argument = argument.toNat ∧ e.mask = mask ∧
       (e.action = .holdLevel ∨ e.action = .muteLevel → e.edge = .level) ∧
       (e.action ∉ [LineAction.none, .holdLevel, .muteLevel] → e.edge ≠ .level) ∧
       (e.action = .recall → e.argument ≤ 3) ∧ (e.action = .holdSpan → 1 ≤ e.argument) ∧
       (e.action = .commit → e.argument ≤ 7) ∧
       (e.action ∉ [LineAction.recall, .holdSpan, .commit] → e.argument = 0)) ∧
     (∀ e : OutEntry, outEntryOperand flags code argument mask = some e ↔
       flags.toNat < 2 ∧ argument = 0#8 ∧ e.source.code = code.toNat ∧ e.invert = flags.getLsbD 0 ∧ e.mask = mask))

/-! ## Invariants -/

/-- After reset the link, the tuning sets, the noise generators and the Segment Pool are sound. -/
def Obligations.ResetIsSound : Prop :=
  State.reset.link.sound ∧ State.reset.tuningSound ∧ State.reset.generatorsRun ∧ State.reset.poolSound

/-- Every step keeps the request and reply slots full together and the report queue at 32 reports or fewer (R173,
R176). -/
def Obligations.StepsKeepTheLinkSound : Prop :=
  ∀ s t : State, s.link.sound → step s = .next t → t.link.sound

/-- Every step keeps every set in range and every set past the shadow cross-clamped: GROW_SHIFT stays below
TAIL_SHIFT and ADAPT_MIN no greater than REBAL_FRAMES (R155, R157). -/
def Obligations.StepsKeepTheTuningSound : Prop :=
  ∀ s t : State, s.tuningSound → step s = .next t → t.tuningSound

/-- Every step keeps every noise generator state nonzero, given sound tuning sets, so that the comfort noise never
stops (R141). -/
def Obligations.StepsKeepTheGeneratorsRunning : Prop :=
  ∀ s t : State, s.tuningSound → s.generatorsRun → step s = .next t → t.generatorsRun
end

