-- ==== Sys2Proof/Laws/State.lean ====
section
/-! SUPPORT. What each table and each update of State leaves, field by field: one lemma per field per update, true by
`rfl`, so that no later proof unfolds a record update. -/

namespace Sys2Proof

/-! ## Tables -/

@[simp] theorem tablePut_get_self {α : Type} {n : Nat} (v : Vector α n) (i : Fin n) (a : α) :
    (tablePut v i a).get i = a := by
  show (v.set i.val a i.isLt)[i.val] = a
  simp

theorem tablePut_get_ne {α : Type} {n : Nat} (v : Vector α n) {i j : Fin n} (a : α) (h : j ≠ i) :
    (tablePut v i a).get j = v.get j := by
  have h' : i.val ≠ j.val := fun e => h (Fin.ext e.symm)
  show (v.set i.val a i.isLt)[j.val] = v[j.val]
  simp [h']

theorem tablePut_get {α : Type} {n : Nat} (v : Vector α n) (i j : Fin n) (a : α) :
    (tablePut v i a).get j = if j = i then a else v.get j := by
  by_cases h : j = i
  · subst h; simp
  · simp [h, tablePut_get_ne]

@[simp] theorem tableMap_get {α β : Type} {n : Nat} (f : α → β) (v : Vector α n) (i : Fin n) :
    (tableMap f v).get i = f (v.get i) := by
  rw [Vector.get_eq_getElem, Vector.get_eq_getElem]; simp [tableMap]

@[simp] theorem tabulate_get {α : Type} {n : Nat} (f : Nat → α) (i : Fin n) : (tabulate n f).get i = f i.val := by
  rw [Vector.get_eq_getElem]; simp [tabulate]

theorem mem_allMics (m : MicLane) : m ∈ allMics := by revert m; decide

theorem mem_allRefs (r : RefLane) : r ∈ allRefs := by revert r; decide

theorem mem_allSlots (k : SlotIndex) : k ∈ allSlots := by revert k; decide

end Sys2Proof

namespace Sys2Proof.Machine

variable (s : State)

/-! ## `State.modMic` -/

@[simp] theorem State.modMic_pending (m : MicLane) (f : Mic → Mic) : (s.modMic m f).pending = s.pending := rfl
@[simp] theorem State.modMic_drawn (m : MicLane) (f : Mic → Mic) : (s.modMic m f).drawn = s.drawn := rfl
@[simp] theorem State.modMic_engine (m : MicLane) (f : Mic → Mic) : (s.modMic m f).engine = s.engine := rfl
@[simp] theorem State.modMic_phase (m : MicLane) (f : Mic → Mic) : (s.modMic m f).phase = s.phase := rfl
@[simp] theorem State.modMic_frameCounter (m : MicLane) (f : Mic → Mic) : (s.modMic m f).frameCounter = s.frameCounter := rfl
@[simp] theorem State.modMic_position (m : MicLane) (f : Mic → Mic) : (s.modMic m f).position = s.position := rfl
@[simp] theorem State.modMic_outNow (m : MicLane) (f : Mic → Mic) : (s.modMic m f).outNow = s.outNow := rfl
@[simp] theorem State.modMic_outNext (m : MicLane) (f : Mic → Mic) : (s.modMic m f).outNext = s.outNext := rfl
@[simp] theorem State.modMic_port (m : MicLane) (f : Mic → Mic) : (s.modMic m f).port = s.port := rfl
@[simp] theorem State.modMic_refs (m : MicLane) (f : Mic → Mic) : (s.modMic m f).refs = s.refs := rfl
@[simp] theorem State.modMic_fillsShown (m : MicLane) (f : Mic → Mic) : (s.modMic m f).fillsShown = s.fillsShown := rfl
@[simp] theorem State.modMic_paths (m : MicLane) (f : Mic → Mic) : (s.modMic m f).paths = s.paths := rfl
@[simp] theorem State.modMic_pool (m : MicLane) (f : Mic → Mic) : (s.modMic m f).pool = s.pool := rfl
@[simp] theorem State.modMic_freeList (m : MicLane) (f : Mic → Mic) : (s.modMic m f).freeList = s.freeList := rfl
@[simp] theorem State.modMic_queue (m : MicLane) (f : Mic → Mic) : (s.modMic m f).queue = s.queue := rfl
@[simp] theorem State.modMic_rebalance (m : MicLane) (f : Mic → Mic) : (s.modMic m f).rebalance = s.rebalance := rfl
@[simp] theorem State.modMic_lowPool (m : MicLane) (f : Mic → Mic) : (s.modMic m f).lowPool = s.lowPool := rfl
@[simp] theorem State.modMic_pushSequence (m : MicLane) (f : Mic → Mic) : (s.modMic m f).pushSequence = s.pushSequence := rfl
@[simp] theorem State.modMic_session (m : MicLane) (f : Mic → Mic) : (s.modMic m f).session = s.session := rfl
@[simp] theorem State.modMic_layout (m : MicLane) (f : Mic → Mic) : (s.modMic m f).layout = s.layout := rfl
@[simp] theorem State.modMic_shadow (m : MicLane) (f : Mic → Mic) : (s.modMic m f).shadow = s.shadow := rfl
@[simp] theorem State.modMic_staged (m : MicLane) (f : Mic → Mic) : (s.modMic m f).staged = s.staged := rfl
@[simp] theorem State.modMic_countdown (m : MicLane) (f : Mic → Mic) : (s.modMic m f).countdown = s.countdown := rfl
@[simp] theorem State.modMic_active (m : MicLane) (f : Mic → Mic) : (s.modMic m f).active = s.active := rfl
@[simp] theorem State.modMic_inLines (m : MicLane) (f : Mic → Mic) : (s.modMic m f).inLines = s.inLines := rfl
@[simp] theorem State.modMic_outLines (m : MicLane) (f : Mic → Mic) : (s.modMic m f).outLines = s.outLines := rfl
@[simp] theorem State.modMic_link (m : MicLane) (f : Mic → Mic) : (s.modMic m f).link = s.link := rfl

/-! ## `State.modEngine` -/

@[simp] theorem State.modEngine_pending (m : MicLane) (f : EngineRecord → EngineRecord) : (s.modEngine m f).pending = s.pending := rfl
@[simp] theorem State.modEngine_drawn (m : MicLane) (f : EngineRecord → EngineRecord) : (s.modEngine m f).drawn = s.drawn := rfl
@[simp] theorem State.modEngine_engine (m : MicLane) (f : EngineRecord → EngineRecord) : (s.modEngine m f).engine = s.engine := rfl
@[simp] theorem State.modEngine_phase (m : MicLane) (f : EngineRecord → EngineRecord) : (s.modEngine m f).phase = s.phase := rfl
@[simp] theorem State.modEngine_frameCounter (m : MicLane) (f : EngineRecord → EngineRecord) : (s.modEngine m f).frameCounter = s.frameCounter := rfl
@[simp] theorem State.modEngine_position (m : MicLane) (f : EngineRecord → EngineRecord) : (s.modEngine m f).position = s.position := rfl
@[simp] theorem State.modEngine_outNow (m : MicLane) (f : EngineRecord → EngineRecord) : (s.modEngine m f).outNow = s.outNow := rfl
@[simp] theorem State.modEngine_outNext (m : MicLane) (f : EngineRecord → EngineRecord) : (s.modEngine m f).outNext = s.outNext := rfl
@[simp] theorem State.modEngine_port (m : MicLane) (f : EngineRecord → EngineRecord) : (s.modEngine m f).port = s.port := rfl
@[simp] theorem State.modEngine_refs (m : MicLane) (f : EngineRecord → EngineRecord) : (s.modEngine m f).refs = s.refs := rfl
@[simp] theorem State.modEngine_fillsShown (m : MicLane) (f : EngineRecord → EngineRecord) : (s.modEngine m f).fillsShown = s.fillsShown := rfl
@[simp] theorem State.modEngine_paths (m : MicLane) (f : EngineRecord → EngineRecord) : (s.modEngine m f).paths = s.paths := rfl
@[simp] theorem State.modEngine_pool (m : MicLane) (f : EngineRecord → EngineRecord) : (s.modEngine m f).pool = s.pool := rfl
@[simp] theorem State.modEngine_freeList (m : MicLane) (f : EngineRecord → EngineRecord) : (s.modEngine m f).freeList = s.freeList := rfl
@[simp] theorem State.modEngine_queue (m : MicLane) (f : EngineRecord → EngineRecord) : (s.modEngine m f).queue = s.queue := rfl
@[simp] theorem State.modEngine_rebalance (m : MicLane) (f : EngineRecord → EngineRecord) : (s.modEngine m f).rebalance = s.rebalance := rfl
@[simp] theorem State.modEngine_lowPool (m : MicLane) (f : EngineRecord → EngineRecord) : (s.modEngine m f).lowPool = s.lowPool := rfl
@[simp] theorem State.modEngine_pushSequence (m : MicLane) (f : EngineRecord → EngineRecord) : (s.modEngine m f).pushSequence = s.pushSequence := rfl
@[simp] theorem State.modEngine_session (m : MicLane) (f : EngineRecord → EngineRecord) : (s.modEngine m f).session = s.session := rfl
@[simp] theorem State.modEngine_layout (m : MicLane) (f : EngineRecord → EngineRecord) : (s.modEngine m f).layout = s.layout := rfl
@[simp] theorem State.modEngine_shadow (m : MicLane) (f : EngineRecord → EngineRecord) : (s.modEngine m f).shadow = s.shadow := rfl
@[simp] theorem State.modEngine_staged (m : MicLane) (f : EngineRecord → EngineRecord) : (s.modEngine m f).staged = s.staged := rfl
@[simp] theorem State.modEngine_countdown (m : MicLane) (f : EngineRecord → EngineRecord) : (s.modEngine m f).countdown = s.countdown := rfl
@[simp] theorem State.modEngine_active (m : MicLane) (f : EngineRecord → EngineRecord) : (s.modEngine m f).active = s.active := rfl
@[simp] theorem State.modEngine_inLines (m : MicLane) (f : EngineRecord → EngineRecord) : (s.modEngine m f).inLines = s.inLines := rfl
@[simp] theorem State.modEngine_outLines (m : MicLane) (f : EngineRecord → EngineRecord) : (s.modEngine m f).outLines = s.outLines := rfl
@[simp] theorem State.modEngine_link (m : MicLane) (f : EngineRecord → EngineRecord) : (s.modEngine m f).link = s.link := rfl

/-! ## `State.modTalk` -/

@[simp] theorem State.modTalk_pending (m : MicLane) (f : TalkRecord → TalkRecord) : (s.modTalk m f).pending = s.pending := rfl
@[simp] theorem State.modTalk_drawn (m : MicLane) (f : TalkRecord → TalkRecord) : (s.modTalk m f).drawn = s.drawn := rfl
@[simp] theorem State.modTalk_engine (m : MicLane) (f : TalkRecord → TalkRecord) : (s.modTalk m f).engine = s.engine := rfl
@[simp] theorem State.modTalk_phase (m : MicLane) (f : TalkRecord → TalkRecord) : (s.modTalk m f).phase = s.phase := rfl
@[simp] theorem State.modTalk_frameCounter (m : MicLane) (f : TalkRecord → TalkRecord) : (s.modTalk m f).frameCounter = s.frameCounter := rfl
@[simp] theorem State.modTalk_position (m : MicLane) (f : TalkRecord → TalkRecord) : (s.modTalk m f).position = s.position := rfl
@[simp] theorem State.modTalk_outNow (m : MicLane) (f : TalkRecord → TalkRecord) : (s.modTalk m f).outNow = s.outNow := rfl
@[simp] theorem State.modTalk_outNext (m : MicLane) (f : TalkRecord → TalkRecord) : (s.modTalk m f).outNext = s.outNext := rfl
@[simp] theorem State.modTalk_port (m : MicLane) (f : TalkRecord → TalkRecord) : (s.modTalk m f).port = s.port := rfl
@[simp] theorem State.modTalk_refs (m : MicLane) (f : TalkRecord → TalkRecord) : (s.modTalk m f).refs = s.refs := rfl
@[simp] theorem State.modTalk_fillsShown (m : MicLane) (f : TalkRecord → TalkRecord) : (s.modTalk m f).fillsShown = s.fillsShown := rfl
@[simp] theorem State.modTalk_paths (m : MicLane) (f : TalkRecord → TalkRecord) : (s.modTalk m f).paths = s.paths := rfl
@[simp] theorem State.modTalk_pool (m : MicLane) (f : TalkRecord → TalkRecord) : (s.modTalk m f).pool = s.pool := rfl
@[simp] theorem State.modTalk_freeList (m : MicLane) (f : TalkRecord → TalkRecord) : (s.modTalk m f).freeList = s.freeList := rfl
@[simp] theorem State.modTalk_queue (m : MicLane) (f : TalkRecord → TalkRecord) : (s.modTalk m f).queue = s.queue := rfl
@[simp] theorem State.modTalk_rebalance (m : MicLane) (f : TalkRecord → TalkRecord) : (s.modTalk m f).rebalance = s.rebalance := rfl
@[simp] theorem State.modTalk_lowPool (m : MicLane) (f : TalkRecord → TalkRecord) : (s.modTalk m f).lowPool = s.lowPool := rfl
@[simp] theorem State.modTalk_pushSequence (m : MicLane) (f : TalkRecord → TalkRecord) : (s.modTalk m f).pushSequence = s.pushSequence := rfl
@[simp] theorem State.modTalk_session (m : MicLane) (f : TalkRecord → TalkRecord) : (s.modTalk m f).session = s.session := rfl
@[simp] theorem State.modTalk_layout (m : MicLane) (f : TalkRecord → TalkRecord) : (s.modTalk m f).layout = s.layout := rfl
@[simp] theorem State.modTalk_shadow (m : MicLane) (f : TalkRecord → TalkRecord) : (s.modTalk m f).shadow = s.shadow := rfl
@[simp] theorem State.modTalk_staged (m : MicLane) (f : TalkRecord → TalkRecord) : (s.modTalk m f).staged = s.staged := rfl
@[simp] theorem State.modTalk_countdown (m : MicLane) (f : TalkRecord → TalkRecord) : (s.modTalk m f).countdown = s.countdown := rfl
@[simp] theorem State.modTalk_active (m : MicLane) (f : TalkRecord → TalkRecord) : (s.modTalk m f).active = s.active := rfl
@[simp] theorem State.modTalk_inLines (m : MicLane) (f : TalkRecord → TalkRecord) : (s.modTalk m f).inLines = s.inLines := rfl
@[simp] theorem State.modTalk_outLines (m : MicLane) (f : TalkRecord → TalkRecord) : (s.modTalk m f).outLines = s.outLines := rfl
@[simp] theorem State.modTalk_link (m : MicLane) (f : TalkRecord → TalkRecord) : (s.modTalk m f).link = s.link := rfl

/-! ## `State.modOut` -/

@[simp] theorem State.modOut_pending (m : MicLane) (f : OutRecord → OutRecord) : (s.modOut m f).pending = s.pending := rfl
@[simp] theorem State.modOut_drawn (m : MicLane) (f : OutRecord → OutRecord) : (s.modOut m f).drawn = s.drawn := rfl
@[simp] theorem State.modOut_engine (m : MicLane) (f : OutRecord → OutRecord) : (s.modOut m f).engine = s.engine := rfl
@[simp] theorem State.modOut_phase (m : MicLane) (f : OutRecord → OutRecord) : (s.modOut m f).phase = s.phase := rfl
@[simp] theorem State.modOut_frameCounter (m : MicLane) (f : OutRecord → OutRecord) : (s.modOut m f).frameCounter = s.frameCounter := rfl
@[simp] theorem State.modOut_position (m : MicLane) (f : OutRecord → OutRecord) : (s.modOut m f).position = s.position := rfl
@[simp] theorem State.modOut_outNow (m : MicLane) (f : OutRecord → OutRecord) : (s.modOut m f).outNow = s.outNow := rfl
@[simp] theorem State.modOut_outNext (m : MicLane) (f : OutRecord → OutRecord) : (s.modOut m f).outNext = s.outNext := rfl
@[simp] theorem State.modOut_port (m : MicLane) (f : OutRecord → OutRecord) : (s.modOut m f).port = s.port := rfl
@[simp] theorem State.modOut_refs (m : MicLane) (f : OutRecord → OutRecord) : (s.modOut m f).refs = s.refs := rfl
@[simp] theorem State.modOut_fillsShown (m : MicLane) (f : OutRecord → OutRecord) : (s.modOut m f).fillsShown = s.fillsShown := rfl
@[simp] theorem State.modOut_paths (m : MicLane) (f : OutRecord → OutRecord) : (s.modOut m f).paths = s.paths := rfl
@[simp] theorem State.modOut_pool (m : MicLane) (f : OutRecord → OutRecord) : (s.modOut m f).pool = s.pool := rfl
@[simp] theorem State.modOut_freeList (m : MicLane) (f : OutRecord → OutRecord) : (s.modOut m f).freeList = s.freeList := rfl
@[simp] theorem State.modOut_queue (m : MicLane) (f : OutRecord → OutRecord) : (s.modOut m f).queue = s.queue := rfl
@[simp] theorem State.modOut_rebalance (m : MicLane) (f : OutRecord → OutRecord) : (s.modOut m f).rebalance = s.rebalance := rfl
@[simp] theorem State.modOut_lowPool (m : MicLane) (f : OutRecord → OutRecord) : (s.modOut m f).lowPool = s.lowPool := rfl
@[simp] theorem State.modOut_pushSequence (m : MicLane) (f : OutRecord → OutRecord) : (s.modOut m f).pushSequence = s.pushSequence := rfl
@[simp] theorem State.modOut_session (m : MicLane) (f : OutRecord → OutRecord) : (s.modOut m f).session = s.session := rfl
@[simp] theorem State.modOut_layout (m : MicLane) (f : OutRecord → OutRecord) : (s.modOut m f).layout = s.layout := rfl
@[simp] theorem State.modOut_shadow (m : MicLane) (f : OutRecord → OutRecord) : (s.modOut m f).shadow = s.shadow := rfl
@[simp] theorem State.modOut_staged (m : MicLane) (f : OutRecord → OutRecord) : (s.modOut m f).staged = s.staged := rfl
@[simp] theorem State.modOut_countdown (m : MicLane) (f : OutRecord → OutRecord) : (s.modOut m f).countdown = s.countdown := rfl
@[simp] theorem State.modOut_active (m : MicLane) (f : OutRecord → OutRecord) : (s.modOut m f).active = s.active := rfl
@[simp] theorem State.modOut_inLines (m : MicLane) (f : OutRecord → OutRecord) : (s.modOut m f).inLines = s.inLines := rfl
@[simp] theorem State.modOut_outLines (m : MicLane) (f : OutRecord → OutRecord) : (s.modOut m f).outLines = s.outLines := rfl
@[simp] theorem State.modOut_link (m : MicLane) (f : OutRecord → OutRecord) : (s.modOut m f).link = s.link := rfl

/-! ## `State.modRing` -/

@[simp] theorem State.modRing_pending (m : MicLane) (f : Ring → Ring) : (s.modRing m f).pending = s.pending := rfl
@[simp] theorem State.modRing_drawn (m : MicLane) (f : Ring → Ring) : (s.modRing m f).drawn = s.drawn := rfl
@[simp] theorem State.modRing_engine (m : MicLane) (f : Ring → Ring) : (s.modRing m f).engine = s.engine := rfl
@[simp] theorem State.modRing_phase (m : MicLane) (f : Ring → Ring) : (s.modRing m f).phase = s.phase := rfl
@[simp] theorem State.modRing_frameCounter (m : MicLane) (f : Ring → Ring) : (s.modRing m f).frameCounter = s.frameCounter := rfl
@[simp] theorem State.modRing_position (m : MicLane) (f : Ring → Ring) : (s.modRing m f).position = s.position := rfl
@[simp] theorem State.modRing_outNow (m : MicLane) (f : Ring → Ring) : (s.modRing m f).outNow = s.outNow := rfl
@[simp] theorem State.modRing_outNext (m : MicLane) (f : Ring → Ring) : (s.modRing m f).outNext = s.outNext := rfl
@[simp] theorem State.modRing_port (m : MicLane) (f : Ring → Ring) : (s.modRing m f).port = s.port := rfl
@[simp] theorem State.modRing_refs (m : MicLane) (f : Ring → Ring) : (s.modRing m f).refs = s.refs := rfl
@[simp] theorem State.modRing_fillsShown (m : MicLane) (f : Ring → Ring) : (s.modRing m f).fillsShown = s.fillsShown := rfl
@[simp] theorem State.modRing_paths (m : MicLane) (f : Ring → Ring) : (s.modRing m f).paths = s.paths := rfl
@[simp] theorem State.modRing_pool (m : MicLane) (f : Ring → Ring) : (s.modRing m f).pool = s.pool := rfl
@[simp] theorem State.modRing_freeList (m : MicLane) (f : Ring → Ring) : (s.modRing m f).freeList = s.freeList := rfl
@[simp] theorem State.modRing_queue (m : MicLane) (f : Ring → Ring) : (s.modRing m f).queue = s.queue := rfl
@[simp] theorem State.modRing_rebalance (m : MicLane) (f : Ring → Ring) : (s.modRing m f).rebalance = s.rebalance := rfl
@[simp] theorem State.modRing_lowPool (m : MicLane) (f : Ring → Ring) : (s.modRing m f).lowPool = s.lowPool := rfl
@[simp] theorem State.modRing_pushSequence (m : MicLane) (f : Ring → Ring) : (s.modRing m f).pushSequence = s.pushSequence := rfl
@[simp] theorem State.modRing_session (m : MicLane) (f : Ring → Ring) : (s.modRing m f).session = s.session := rfl
@[simp] theorem State.modRing_layout (m : MicLane) (f : Ring → Ring) : (s.modRing m f).layout = s.layout := rfl
@[simp] theorem State.modRing_shadow (m : MicLane) (f : Ring → Ring) : (s.modRing m f).shadow = s.shadow := rfl
@[simp] theorem State.modRing_staged (m : MicLane) (f : Ring → Ring) : (s.modRing m f).staged = s.staged := rfl
@[simp] theorem State.modRing_countdown (m : MicLane) (f : Ring → Ring) : (s.modRing m f).countdown = s.countdown := rfl
@[simp] theorem State.modRing_active (m : MicLane) (f : Ring → Ring) : (s.modRing m f).active = s.active := rfl
@[simp] theorem State.modRing_inLines (m : MicLane) (f : Ring → Ring) : (s.modRing m f).inLines = s.inLines := rfl
@[simp] theorem State.modRing_outLines (m : MicLane) (f : Ring → Ring) : (s.modRing m f).outLines = s.outLines := rfl
@[simp] theorem State.modRing_link (m : MicLane) (f : Ring → Ring) : (s.modRing m f).link = s.link := rfl

/-! ## `State.modSlot` -/

@[simp] theorem State.modSlot_pending (m : MicLane) (k : SlotIndex) (f : Slot → Slot) : (s.modSlot m k f).pending = s.pending := rfl
@[simp] theorem State.modSlot_drawn (m : MicLane) (k : SlotIndex) (f : Slot → Slot) : (s.modSlot m k f).drawn = s.drawn := rfl
@[simp] theorem State.modSlot_engine (m : MicLane) (k : SlotIndex) (f : Slot → Slot) : (s.modSlot m k f).engine = s.engine := rfl
@[simp] theorem State.modSlot_phase (m : MicLane) (k : SlotIndex) (f : Slot → Slot) : (s.modSlot m k f).phase = s.phase := rfl
@[simp] theorem State.modSlot_frameCounter (m : MicLane) (k : SlotIndex) (f : Slot → Slot) : (s.modSlot m k f).frameCounter = s.frameCounter := rfl
@[simp] theorem State.modSlot_position (m : MicLane) (k : SlotIndex) (f : Slot → Slot) : (s.modSlot m k f).position = s.position := rfl
@[simp] theorem State.modSlot_outNow (m : MicLane) (k : SlotIndex) (f : Slot → Slot) : (s.modSlot m k f).outNow = s.outNow := rfl
@[simp] theorem State.modSlot_outNext (m : MicLane) (k : SlotIndex) (f : Slot → Slot) : (s.modSlot m k f).outNext = s.outNext := rfl
@[simp] theorem State.modSlot_port (m : MicLane) (k : SlotIndex) (f : Slot → Slot) : (s.modSlot m k f).port = s.port := rfl
@[simp] theorem State.modSlot_refs (m : MicLane) (k : SlotIndex) (f : Slot → Slot) : (s.modSlot m k f).refs = s.refs := rfl
@[simp] theorem State.modSlot_fillsShown (m : MicLane) (k : SlotIndex) (f : Slot → Slot) : (s.modSlot m k f).fillsShown = s.fillsShown := rfl
@[simp] theorem State.modSlot_paths (m : MicLane) (k : SlotIndex) (f : Slot → Slot) : (s.modSlot m k f).paths = s.paths := rfl
@[simp] theorem State.modSlot_pool (m : MicLane) (k : SlotIndex) (f : Slot → Slot) : (s.modSlot m k f).pool = s.pool := rfl
@[simp] theorem State.modSlot_freeList (m : MicLane) (k : SlotIndex) (f : Slot → Slot) : (s.modSlot m k f).freeList = s.freeList := rfl
@[simp] theorem State.modSlot_queue (m : MicLane) (k : SlotIndex) (f : Slot → Slot) : (s.modSlot m k f).queue = s.queue := rfl
@[simp] theorem State.modSlot_rebalance (m : MicLane) (k : SlotIndex) (f : Slot → Slot) : (s.modSlot m k f).rebalance = s.rebalance := rfl
@[simp] theorem State.modSlot_lowPool (m : MicLane) (k : SlotIndex) (f : Slot → Slot) : (s.modSlot m k f).lowPool = s.lowPool := rfl
@[simp] theorem State.modSlot_pushSequence (m : MicLane) (k : SlotIndex) (f : Slot → Slot) : (s.modSlot m k f).pushSequence = s.pushSequence := rfl
@[simp] theorem State.modSlot_session (m : MicLane) (k : SlotIndex) (f : Slot → Slot) : (s.modSlot m k f).session = s.session := rfl
@[simp] theorem State.modSlot_layout (m : MicLane) (k : SlotIndex) (f : Slot → Slot) : (s.modSlot m k f).layout = s.layout := rfl
@[simp] theorem State.modSlot_shadow (m : MicLane) (k : SlotIndex) (f : Slot → Slot) : (s.modSlot m k f).shadow = s.shadow := rfl
@[simp] theorem State.modSlot_staged (m : MicLane) (k : SlotIndex) (f : Slot → Slot) : (s.modSlot m k f).staged = s.staged := rfl
@[simp] theorem State.modSlot_countdown (m : MicLane) (k : SlotIndex) (f : Slot → Slot) : (s.modSlot m k f).countdown = s.countdown := rfl
@[simp] theorem State.modSlot_active (m : MicLane) (k : SlotIndex) (f : Slot → Slot) : (s.modSlot m k f).active = s.active := rfl
@[simp] theorem State.modSlot_inLines (m : MicLane) (k : SlotIndex) (f : Slot → Slot) : (s.modSlot m k f).inLines = s.inLines := rfl
@[simp] theorem State.modSlot_outLines (m : MicLane) (k : SlotIndex) (f : Slot → Slot) : (s.modSlot m k f).outLines = s.outLines := rfl
@[simp] theorem State.modSlot_link (m : MicLane) (k : SlotIndex) (f : Slot → Slot) : (s.modSlot m k f).link = s.link := rfl

/-! ## `State.modPath` -/

@[simp] theorem State.modPath_pending (m : MicLane) (r : RefLane) (f : Path → Path) : (s.modPath m r f).pending = s.pending := rfl
@[simp] theorem State.modPath_drawn (m : MicLane) (r : RefLane) (f : Path → Path) : (s.modPath m r f).drawn = s.drawn := rfl
@[simp] theorem State.modPath_engine (m : MicLane) (r : RefLane) (f : Path → Path) : (s.modPath m r f).engine = s.engine := rfl
@[simp] theorem State.modPath_phase (m : MicLane) (r : RefLane) (f : Path → Path) : (s.modPath m r f).phase = s.phase := rfl
@[simp] theorem State.modPath_frameCounter (m : MicLane) (r : RefLane) (f : Path → Path) : (s.modPath m r f).frameCounter = s.frameCounter := rfl
@[simp] theorem State.modPath_position (m : MicLane) (r : RefLane) (f : Path → Path) : (s.modPath m r f).position = s.position := rfl
@[simp] theorem State.modPath_outNow (m : MicLane) (r : RefLane) (f : Path → Path) : (s.modPath m r f).outNow = s.outNow := rfl
@[simp] theorem State.modPath_outNext (m : MicLane) (r : RefLane) (f : Path → Path) : (s.modPath m r f).outNext = s.outNext := rfl
@[simp] theorem State.modPath_port (m : MicLane) (r : RefLane) (f : Path → Path) : (s.modPath m r f).port = s.port := rfl
@[simp] theorem State.modPath_refs (m : MicLane) (r : RefLane) (f : Path → Path) : (s.modPath m r f).refs = s.refs := rfl
@[simp] theorem State.modPath_fillsShown (m : MicLane) (r : RefLane) (f : Path → Path) : (s.modPath m r f).fillsShown = s.fillsShown := rfl
@[simp] theorem State.modPath_mics (m : MicLane) (r : RefLane) (f : Path → Path) : (s.modPath m r f).mics = s.mics := rfl
@[simp] theorem State.modPath_pool (m : MicLane) (r : RefLane) (f : Path → Path) : (s.modPath m r f).pool = s.pool := rfl
@[simp] theorem State.modPath_freeList (m : MicLane) (r : RefLane) (f : Path → Path) : (s.modPath m r f).freeList = s.freeList := rfl
@[simp] theorem State.modPath_queue (m : MicLane) (r : RefLane) (f : Path → Path) : (s.modPath m r f).queue = s.queue := rfl
@[simp] theorem State.modPath_rebalance (m : MicLane) (r : RefLane) (f : Path → Path) : (s.modPath m r f).rebalance = s.rebalance := rfl
@[simp] theorem State.modPath_lowPool (m : MicLane) (r : RefLane) (f : Path → Path) : (s.modPath m r f).lowPool = s.lowPool := rfl
@[simp] theorem State.modPath_pushSequence (m : MicLane) (r : RefLane) (f : Path → Path) : (s.modPath m r f).pushSequence = s.pushSequence := rfl
@[simp] theorem State.modPath_session (m : MicLane) (r : RefLane) (f : Path → Path) : (s.modPath m r f).session = s.session := rfl
@[simp] theorem State.modPath_layout (m : MicLane) (r : RefLane) (f : Path → Path) : (s.modPath m r f).layout = s.layout := rfl
@[simp] theorem State.modPath_shadow (m : MicLane) (r : RefLane) (f : Path → Path) : (s.modPath m r f).shadow = s.shadow := rfl
@[simp] theorem State.modPath_staged (m : MicLane) (r : RefLane) (f : Path → Path) : (s.modPath m r f).staged = s.staged := rfl
@[simp] theorem State.modPath_countdown (m : MicLane) (r : RefLane) (f : Path → Path) : (s.modPath m r f).countdown = s.countdown := rfl
@[simp] theorem State.modPath_active (m : MicLane) (r : RefLane) (f : Path → Path) : (s.modPath m r f).active = s.active := rfl
@[simp] theorem State.modPath_inLines (m : MicLane) (r : RefLane) (f : Path → Path) : (s.modPath m r f).inLines = s.inLines := rfl
@[simp] theorem State.modPath_outLines (m : MicLane) (r : RefLane) (f : Path → Path) : (s.modPath m r f).outLines = s.outLines := rfl
@[simp] theorem State.modPath_link (m : MicLane) (r : RefLane) (f : Path → Path) : (s.modPath m r f).link = s.link := rfl

/-! ## `State.modSegment` -/

@[simp] theorem State.modSegment_pending (i : SegIndex) (f : Segment → Segment) : (s.modSegment i f).pending = s.pending := rfl
@[simp] theorem State.modSegment_drawn (i : SegIndex) (f : Segment → Segment) : (s.modSegment i f).drawn = s.drawn := rfl
@[simp] theorem State.modSegment_engine (i : SegIndex) (f : Segment → Segment) : (s.modSegment i f).engine = s.engine := rfl
@[simp] theorem State.modSegment_phase (i : SegIndex) (f : Segment → Segment) : (s.modSegment i f).phase = s.phase := rfl
@[simp] theorem State.modSegment_frameCounter (i : SegIndex) (f : Segment → Segment) : (s.modSegment i f).frameCounter = s.frameCounter := rfl
@[simp] theorem State.modSegment_position (i : SegIndex) (f : Segment → Segment) : (s.modSegment i f).position = s.position := rfl
@[simp] theorem State.modSegment_outNow (i : SegIndex) (f : Segment → Segment) : (s.modSegment i f).outNow = s.outNow := rfl
@[simp] theorem State.modSegment_outNext (i : SegIndex) (f : Segment → Segment) : (s.modSegment i f).outNext = s.outNext := rfl
@[simp] theorem State.modSegment_port (i : SegIndex) (f : Segment → Segment) : (s.modSegment i f).port = s.port := rfl
@[simp] theorem State.modSegment_refs (i : SegIndex) (f : Segment → Segment) : (s.modSegment i f).refs = s.refs := rfl
@[simp] theorem State.modSegment_fillsShown (i : SegIndex) (f : Segment → Segment) : (s.modSegment i f).fillsShown = s.fillsShown := rfl
@[simp] theorem State.modSegment_mics (i : SegIndex) (f : Segment → Segment) : (s.modSegment i f).mics = s.mics := rfl
@[simp] theorem State.modSegment_paths (i : SegIndex) (f : Segment → Segment) : (s.modSegment i f).paths = s.paths := rfl
@[simp] theorem State.modSegment_freeList (i : SegIndex) (f : Segment → Segment) : (s.modSegment i f).freeList = s.freeList := rfl
@[simp] theorem State.modSegment_queue (i : SegIndex) (f : Segment → Segment) : (s.modSegment i f).queue = s.queue := rfl
@[simp] theorem State.modSegment_rebalance (i : SegIndex) (f : Segment → Segment) : (s.modSegment i f).rebalance = s.rebalance := rfl
@[simp] theorem State.modSegment_lowPool (i : SegIndex) (f : Segment → Segment) : (s.modSegment i f).lowPool = s.lowPool := rfl
@[simp] theorem State.modSegment_pushSequence (i : SegIndex) (f : Segment → Segment) : (s.modSegment i f).pushSequence = s.pushSequence := rfl
@[simp] theorem State.modSegment_session (i : SegIndex) (f : Segment → Segment) : (s.modSegment i f).session = s.session := rfl
@[simp] theorem State.modSegment_layout (i : SegIndex) (f : Segment → Segment) : (s.modSegment i f).layout = s.layout := rfl
@[simp] theorem State.modSegment_shadow (i : SegIndex) (f : Segment → Segment) : (s.modSegment i f).shadow = s.shadow := rfl
@[simp] theorem State.modSegment_staged (i : SegIndex) (f : Segment → Segment) : (s.modSegment i f).staged = s.staged := rfl
@[simp] theorem State.modSegment_countdown (i : SegIndex) (f : Segment → Segment) : (s.modSegment i f).countdown = s.countdown := rfl
@[simp] theorem State.modSegment_active (i : SegIndex) (f : Segment → Segment) : (s.modSegment i f).active = s.active := rfl
@[simp] theorem State.modSegment_inLines (i : SegIndex) (f : Segment → Segment) : (s.modSegment i f).inLines = s.inLines := rfl
@[simp] theorem State.modSegment_outLines (i : SegIndex) (f : Segment → Segment) : (s.modSegment i f).outLines = s.outLines := rfl
@[simp] theorem State.modSegment_link (i : SegIndex) (f : Segment → Segment) : (s.modSegment i f).link = s.link := rfl

/-! ## `State.modRef` -/

@[simp] theorem State.modRef_pending (r : RefLane) (f : RefRecord → RefRecord) : (s.modRef r f).pending = s.pending := rfl
@[simp] theorem State.modRef_drawn (r : RefLane) (f : RefRecord → RefRecord) : (s.modRef r f).drawn = s.drawn := rfl
@[simp] theorem State.modRef_engine (r : RefLane) (f : RefRecord → RefRecord) : (s.modRef r f).engine = s.engine := rfl
@[simp] theorem State.modRef_phase (r : RefLane) (f : RefRecord → RefRecord) : (s.modRef r f).phase = s.phase := rfl
@[simp] theorem State.modRef_frameCounter (r : RefLane) (f : RefRecord → RefRecord) : (s.modRef r f).frameCounter = s.frameCounter := rfl
@[simp] theorem State.modRef_position (r : RefLane) (f : RefRecord → RefRecord) : (s.modRef r f).position = s.position := rfl
@[simp] theorem State.modRef_outNow (r : RefLane) (f : RefRecord → RefRecord) : (s.modRef r f).outNow = s.outNow := rfl
@[simp] theorem State.modRef_outNext (r : RefLane) (f : RefRecord → RefRecord) : (s.modRef r f).outNext = s.outNext := rfl
@[simp] theorem State.modRef_port (r : RefLane) (f : RefRecord → RefRecord) : (s.modRef r f).port = s.port := rfl
@[simp] theorem State.modRef_fillsShown (r : RefLane) (f : RefRecord → RefRecord) : (s.modRef r f).fillsShown = s.fillsShown := rfl
@[simp] theorem State.modRef_mics (r : RefLane) (f : RefRecord → RefRecord) : (s.modRef r f).mics = s.mics := rfl
@[simp] theorem State.modRef_paths (r : RefLane) (f : RefRecord → RefRecord) : (s.modRef r f).paths = s.paths := rfl
@[simp] theorem State.modRef_pool (r : RefLane) (f : RefRecord → RefRecord) : (s.modRef r f).pool = s.pool := rfl
@[simp] theorem State.modRef_freeList (r : RefLane) (f : RefRecord → RefRecord) : (s.modRef r f).freeList = s.freeList := rfl
@[simp] theorem State.modRef_queue (r : RefLane) (f : RefRecord → RefRecord) : (s.modRef r f).queue = s.queue := rfl
@[simp] theorem State.modRef_rebalance (r : RefLane) (f : RefRecord → RefRecord) : (s.modRef r f).rebalance = s.rebalance := rfl
@[simp] theorem State.modRef_lowPool (r : RefLane) (f : RefRecord → RefRecord) : (s.modRef r f).lowPool = s.lowPool := rfl
@[simp] theorem State.modRef_pushSequence (r : RefLane) (f : RefRecord → RefRecord) : (s.modRef r f).pushSequence = s.pushSequence := rfl
@[simp] theorem State.modRef_session (r : RefLane) (f : RefRecord → RefRecord) : (s.modRef r f).session = s.session := rfl
@[simp] theorem State.modRef_layout (r : RefLane) (f : RefRecord → RefRecord) : (s.modRef r f).layout = s.layout := rfl
@[simp] theorem State.modRef_shadow (r : RefLane) (f : RefRecord → RefRecord) : (s.modRef r f).shadow = s.shadow := rfl
@[simp] theorem State.modRef_staged (r : RefLane) (f : RefRecord → RefRecord) : (s.modRef r f).staged = s.staged := rfl
@[simp] theorem State.modRef_countdown (r : RefLane) (f : RefRecord → RefRecord) : (s.modRef r f).countdown = s.countdown := rfl
@[simp] theorem State.modRef_active (r : RefLane) (f : RefRecord → RefRecord) : (s.modRef r f).active = s.active := rfl
@[simp] theorem State.modRef_inLines (r : RefLane) (f : RefRecord → RefRecord) : (s.modRef r f).inLines = s.inLines := rfl
@[simp] theorem State.modRef_outLines (r : RefLane) (f : RefRecord → RefRecord) : (s.modRef r f).outLines = s.outLines := rfl
@[simp] theorem State.modRef_link (r : RefLane) (f : RefRecord → RefRecord) : (s.modRef r f).link = s.link := rfl

/-! ## `State.modInLine` -/

@[simp] theorem State.modInLine_pending (k : InLineIndex) (f : InLine → InLine) : (s.modInLine k f).pending = s.pending := rfl
@[simp] theorem State.modInLine_drawn (k : InLineIndex) (f : InLine → InLine) : (s.modInLine k f).drawn = s.drawn := rfl
@[simp] theorem State.modInLine_engine (k : InLineIndex) (f : InLine → InLine) : (s.modInLine k f).engine = s.engine := rfl
@[simp] theorem State.modInLine_phase (k : InLineIndex) (f : InLine → InLine) : (s.modInLine k f).phase = s.phase := rfl
@[simp] theorem State.modInLine_frameCounter (k : InLineIndex) (f : InLine → InLine) : (s.modInLine k f).frameCounter = s.frameCounter := rfl
@[simp] theorem State.modInLine_position (k : InLineIndex) (f : InLine → InLine) : (s.modInLine k f).position = s.position := rfl
@[simp] theorem State.modInLine_outNow (k : InLineIndex) (f : InLine → InLine) : (s.modInLine k f).outNow = s.outNow := rfl
@[simp] theorem State.modInLine_outNext (k : InLineIndex) (f : InLine → InLine) : (s.modInLine k f).outNext = s.outNext := rfl
@[simp] theorem State.modInLine_port (k : InLineIndex) (f : InLine → InLine) : (s.modInLine k f).port = s.port := rfl
@[simp] theorem State.modInLine_refs (k : InLineIndex) (f : InLine → InLine) : (s.modInLine k f).refs = s.refs := rfl
@[simp] theorem State.modInLine_fillsShown (k : InLineIndex) (f : InLine → InLine) : (s.modInLine k f).fillsShown = s.fillsShown := rfl
@[simp] theorem State.modInLine_mics (k : InLineIndex) (f : InLine → InLine) : (s.modInLine k f).mics = s.mics := rfl
@[simp] theorem State.modInLine_paths (k : InLineIndex) (f : InLine → InLine) : (s.modInLine k f).paths = s.paths := rfl
@[simp] theorem State.modInLine_pool (k : InLineIndex) (f : InLine → InLine) : (s.modInLine k f).pool = s.pool := rfl
@[simp] theorem State.modInLine_freeList (k : InLineIndex) (f : InLine → InLine) : (s.modInLine k f).freeList = s.freeList := rfl
@[simp] theorem State.modInLine_queue (k : InLineIndex) (f : InLine → InLine) : (s.modInLine k f).queue = s.queue := rfl
@[simp] theorem State.modInLine_rebalance (k : InLineIndex) (f : InLine → InLine) : (s.modInLine k f).rebalance = s.rebalance := rfl
@[simp] theorem State.modInLine_lowPool (k : InLineIndex) (f : InLine → InLine) : (s.modInLine k f).lowPool = s.lowPool := rfl
@[simp] theorem State.modInLine_pushSequence (k : InLineIndex) (f : InLine → InLine) : (s.modInLine k f).pushSequence = s.pushSequence := rfl
@[simp] theorem State.modInLine_session (k : InLineIndex) (f : InLine → InLine) : (s.modInLine k f).session = s.session := rfl
@[simp] theorem State.modInLine_layout (k : InLineIndex) (f : InLine → InLine) : (s.modInLine k f).layout = s.layout := rfl
@[simp] theorem State.modInLine_shadow (k : InLineIndex) (f : InLine → InLine) : (s.modInLine k f).shadow = s.shadow := rfl
@[simp] theorem State.modInLine_staged (k : InLineIndex) (f : InLine → InLine) : (s.modInLine k f).staged = s.staged := rfl
@[simp] theorem State.modInLine_countdown (k : InLineIndex) (f : InLine → InLine) : (s.modInLine k f).countdown = s.countdown := rfl
@[simp] theorem State.modInLine_active (k : InLineIndex) (f : InLine → InLine) : (s.modInLine k f).active = s.active := rfl
@[simp] theorem State.modInLine_outLines (k : InLineIndex) (f : InLine → InLine) : (s.modInLine k f).outLines = s.outLines := rfl
@[simp] theorem State.modInLine_link (k : InLineIndex) (f : InLine → InLine) : (s.modInLine k f).link = s.link := rfl

/-! ## `State.modOutLine` -/

@[simp] theorem State.modOutLine_pending (k : OutLineIndex) (f : OutLine → OutLine) : (s.modOutLine k f).pending = s.pending := rfl
@[simp] theorem State.modOutLine_drawn (k : OutLineIndex) (f : OutLine → OutLine) : (s.modOutLine k f).drawn = s.drawn := rfl
@[simp] theorem State.modOutLine_engine (k : OutLineIndex) (f : OutLine → OutLine) : (s.modOutLine k f).engine = s.engine := rfl
@[simp] theorem State.modOutLine_phase (k : OutLineIndex) (f : OutLine → OutLine) : (s.modOutLine k f).phase = s.phase := rfl
@[simp] theorem State.modOutLine_frameCounter (k : OutLineIndex) (f : OutLine → OutLine) : (s.modOutLine k f).frameCounter = s.frameCounter := rfl
@[simp] theorem State.modOutLine_position (k : OutLineIndex) (f : OutLine → OutLine) : (s.modOutLine k f).position = s.position := rfl
@[simp] theorem State.modOutLine_outNow (k : OutLineIndex) (f : OutLine → OutLine) : (s.modOutLine k f).outNow = s.outNow := rfl
@[simp] theorem State.modOutLine_outNext (k : OutLineIndex) (f : OutLine → OutLine) : (s.modOutLine k f).outNext = s.outNext := rfl
@[simp] theorem State.modOutLine_port (k : OutLineIndex) (f : OutLine → OutLine) : (s.modOutLine k f).port = s.port := rfl
@[simp] theorem State.modOutLine_refs (k : OutLineIndex) (f : OutLine → OutLine) : (s.modOutLine k f).refs = s.refs := rfl
@[simp] theorem State.modOutLine_fillsShown (k : OutLineIndex) (f : OutLine → OutLine) : (s.modOutLine k f).fillsShown = s.fillsShown := rfl
@[simp] theorem State.modOutLine_mics (k : OutLineIndex) (f : OutLine → OutLine) : (s.modOutLine k f).mics = s.mics := rfl
@[simp] theorem State.modOutLine_paths (k : OutLineIndex) (f : OutLine → OutLine) : (s.modOutLine k f).paths = s.paths := rfl
@[simp] theorem State.modOutLine_pool (k : OutLineIndex) (f : OutLine → OutLine) : (s.modOutLine k f).pool = s.pool := rfl
@[simp] theorem State.modOutLine_freeList (k : OutLineIndex) (f : OutLine → OutLine) : (s.modOutLine k f).freeList = s.freeList := rfl
@[simp] theorem State.modOutLine_queue (k : OutLineIndex) (f : OutLine → OutLine) : (s.modOutLine k f).queue = s.queue := rfl
@[simp] theorem State.modOutLine_rebalance (k : OutLineIndex) (f : OutLine → OutLine) : (s.modOutLine k f).rebalance = s.rebalance := rfl
@[simp] theorem State.modOutLine_lowPool (k : OutLineIndex) (f : OutLine → OutLine) : (s.modOutLine k f).lowPool = s.lowPool := rfl
@[simp] theorem State.modOutLine_pushSequence (k : OutLineIndex) (f : OutLine → OutLine) : (s.modOutLine k f).pushSequence = s.pushSequence := rfl
@[simp] theorem State.modOutLine_session (k : OutLineIndex) (f : OutLine → OutLine) : (s.modOutLine k f).session = s.session := rfl
@[simp] theorem State.modOutLine_layout (k : OutLineIndex) (f : OutLine → OutLine) : (s.modOutLine k f).layout = s.layout := rfl
@[simp] theorem State.modOutLine_shadow (k : OutLineIndex) (f : OutLine → OutLine) : (s.modOutLine k f).shadow = s.shadow := rfl
@[simp] theorem State.modOutLine_staged (k : OutLineIndex) (f : OutLine → OutLine) : (s.modOutLine k f).staged = s.staged := rfl
@[simp] theorem State.modOutLine_countdown (k : OutLineIndex) (f : OutLine → OutLine) : (s.modOutLine k f).countdown = s.countdown := rfl
@[simp] theorem State.modOutLine_active (k : OutLineIndex) (f : OutLine → OutLine) : (s.modOutLine k f).active = s.active := rfl
@[simp] theorem State.modOutLine_inLines (k : OutLineIndex) (f : OutLine → OutLine) : (s.modOutLine k f).inLines = s.inLines := rfl
@[simp] theorem State.modOutLine_link (k : OutLineIndex) (f : OutLine → OutLine) : (s.modOutLine k f).link = s.link := rfl

/-! ## `State.modLink` -/

@[simp] theorem State.modLink_pending (f : Link → Link) : (s.modLink f).pending = s.pending := rfl
@[simp] theorem State.modLink_drawn (f : Link → Link) : (s.modLink f).drawn = s.drawn := rfl
@[simp] theorem State.modLink_engine (f : Link → Link) : (s.modLink f).engine = s.engine := rfl
@[simp] theorem State.modLink_phase (f : Link → Link) : (s.modLink f).phase = s.phase := rfl
@[simp] theorem State.modLink_frameCounter (f : Link → Link) : (s.modLink f).frameCounter = s.frameCounter := rfl
@[simp] theorem State.modLink_position (f : Link → Link) : (s.modLink f).position = s.position := rfl
@[simp] theorem State.modLink_outNow (f : Link → Link) : (s.modLink f).outNow = s.outNow := rfl
@[simp] theorem State.modLink_outNext (f : Link → Link) : (s.modLink f).outNext = s.outNext := rfl
@[simp] theorem State.modLink_port (f : Link → Link) : (s.modLink f).port = s.port := rfl
@[simp] theorem State.modLink_refs (f : Link → Link) : (s.modLink f).refs = s.refs := rfl
@[simp] theorem State.modLink_fillsShown (f : Link → Link) : (s.modLink f).fillsShown = s.fillsShown := rfl
@[simp] theorem State.modLink_mics (f : Link → Link) : (s.modLink f).mics = s.mics := rfl
@[simp] theorem State.modLink_paths (f : Link → Link) : (s.modLink f).paths = s.paths := rfl
@[simp] theorem State.modLink_pool (f : Link → Link) : (s.modLink f).pool = s.pool := rfl
@[simp] theorem State.modLink_freeList (f : Link → Link) : (s.modLink f).freeList = s.freeList := rfl
@[simp] theorem State.modLink_queue (f : Link → Link) : (s.modLink f).queue = s.queue := rfl
@[simp] theorem State.modLink_rebalance (f : Link → Link) : (s.modLink f).rebalance = s.rebalance := rfl
@[simp] theorem State.modLink_lowPool (f : Link → Link) : (s.modLink f).lowPool = s.lowPool := rfl
@[simp] theorem State.modLink_pushSequence (f : Link → Link) : (s.modLink f).pushSequence = s.pushSequence := rfl
@[simp] theorem State.modLink_session (f : Link → Link) : (s.modLink f).session = s.session := rfl
@[simp] theorem State.modLink_layout (f : Link → Link) : (s.modLink f).layout = s.layout := rfl
@[simp] theorem State.modLink_shadow (f : Link → Link) : (s.modLink f).shadow = s.shadow := rfl
@[simp] theorem State.modLink_staged (f : Link → Link) : (s.modLink f).staged = s.staged := rfl
@[simp] theorem State.modLink_countdown (f : Link → Link) : (s.modLink f).countdown = s.countdown := rfl
@[simp] theorem State.modLink_active (f : Link → Link) : (s.modLink f).active = s.active := rfl
@[simp] theorem State.modLink_inLines (f : Link → Link) : (s.modLink f).inLines = s.inLines := rfl
@[simp] theorem State.modLink_outLines (f : Link → Link) : (s.modLink f).outLines = s.outLines := rfl

/-! ## `State.modFault` -/

@[simp] theorem State.modFault_pending (k : FaultKind) (f : FaultEntry → FaultEntry) : (s.modFault k f).pending = s.pending := rfl
@[simp] theorem State.modFault_drawn (k : FaultKind) (f : FaultEntry → FaultEntry) : (s.modFault k f).drawn = s.drawn := rfl
@[simp] theorem State.modFault_engine (k : FaultKind) (f : FaultEntry → FaultEntry) : (s.modFault k f).engine = s.engine := rfl
@[simp] theorem State.modFault_phase (k : FaultKind) (f : FaultEntry → FaultEntry) : (s.modFault k f).phase = s.phase := rfl
@[simp] theorem State.modFault_frameCounter (k : FaultKind) (f : FaultEntry → FaultEntry) : (s.modFault k f).frameCounter = s.frameCounter := rfl
@[simp] theorem State.modFault_position (k : FaultKind) (f : FaultEntry → FaultEntry) : (s.modFault k f).position = s.position := rfl
@[simp] theorem State.modFault_outNow (k : FaultKind) (f : FaultEntry → FaultEntry) : (s.modFault k f).outNow = s.outNow := rfl
@[simp] theorem State.modFault_outNext (k : FaultKind) (f : FaultEntry → FaultEntry) : (s.modFault k f).outNext = s.outNext := rfl
@[simp] theorem State.modFault_port (k : FaultKind) (f : FaultEntry → FaultEntry) : (s.modFault k f).port = s.port := rfl
@[simp] theorem State.modFault_refs (k : FaultKind) (f : FaultEntry → FaultEntry) : (s.modFault k f).refs = s.refs := rfl
@[simp] theorem State.modFault_fillsShown (k : FaultKind) (f : FaultEntry → FaultEntry) : (s.modFault k f).fillsShown = s.fillsShown := rfl
@[simp] theorem State.modFault_mics (k : FaultKind) (f : FaultEntry → FaultEntry) : (s.modFault k f).mics = s.mics := rfl
@[simp] theorem State.modFault_paths (k : FaultKind) (f : FaultEntry → FaultEntry) : (s.modFault k f).paths = s.paths := rfl
@[simp] theorem State.modFault_pool (k : FaultKind) (f : FaultEntry → FaultEntry) : (s.modFault k f).pool = s.pool := rfl
@[simp] theorem State.modFault_freeList (k : FaultKind) (f : FaultEntry → FaultEntry) : (s.modFault k f).freeList = s.freeList := rfl
@[simp] theorem State.modFault_queue (k : FaultKind) (f : FaultEntry → FaultEntry) : (s.modFault k f).queue = s.queue := rfl
@[simp] theorem State.modFault_rebalance (k : FaultKind) (f : FaultEntry → FaultEntry) : (s.modFault k f).rebalance = s.rebalance := rfl
@[simp] theorem State.modFault_lowPool (k : FaultKind) (f : FaultEntry → FaultEntry) : (s.modFault k f).lowPool = s.lowPool := rfl
@[simp] theorem State.modFault_pushSequence (k : FaultKind) (f : FaultEntry → FaultEntry) : (s.modFault k f).pushSequence = s.pushSequence := rfl
@[simp] theorem State.modFault_session (k : FaultKind) (f : FaultEntry → FaultEntry) : (s.modFault k f).session = s.session := rfl
@[simp] theorem State.modFault_layout (k : FaultKind) (f : FaultEntry → FaultEntry) : (s.modFault k f).layout = s.layout := rfl
@[simp] theorem State.modFault_shadow (k : FaultKind) (f : FaultEntry → FaultEntry) : (s.modFault k f).shadow = s.shadow := rfl
@[simp] theorem State.modFault_staged (k : FaultKind) (f : FaultEntry → FaultEntry) : (s.modFault k f).staged = s.staged := rfl
@[simp] theorem State.modFault_countdown (k : FaultKind) (f : FaultEntry → FaultEntry) : (s.modFault k f).countdown = s.countdown := rfl
@[simp] theorem State.modFault_active (k : FaultKind) (f : FaultEntry → FaultEntry) : (s.modFault k f).active = s.active := rfl
@[simp] theorem State.modFault_inLines (k : FaultKind) (f : FaultEntry → FaultEntry) : (s.modFault k f).inLines = s.inLines := rfl
@[simp] theorem State.modFault_outLines (k : FaultKind) (f : FaultEntry → FaultEntry) : (s.modFault k f).outLines = s.outLines := rfl

/-! ## `State.report` -/

@[simp] theorem State.report_pending (c : ReportClass) (payload : List Byte) : (s.report c payload).pending = s.pending := rfl
@[simp] theorem State.report_drawn (c : ReportClass) (payload : List Byte) : (s.report c payload).drawn = s.drawn := rfl
@[simp] theorem State.report_engine (c : ReportClass) (payload : List Byte) : (s.report c payload).engine = s.engine := rfl
@[simp] theorem State.report_phase (c : ReportClass) (payload : List Byte) : (s.report c payload).phase = s.phase := rfl
@[simp] theorem State.report_frameCounter (c : ReportClass) (payload : List Byte) : (s.report c payload).frameCounter = s.frameCounter := rfl
@[simp] theorem State.report_position (c : ReportClass) (payload : List Byte) : (s.report c payload).position = s.position := rfl
@[simp] theorem State.report_outNow (c : ReportClass) (payload : List Byte) : (s.report c payload).outNow = s.outNow := rfl
@[simp] theorem State.report_outNext (c : ReportClass) (payload : List Byte) : (s.report c payload).outNext = s.outNext := rfl
@[simp] theorem State.report_port (c : ReportClass) (payload : List Byte) : (s.report c payload).port = s.port := rfl
@[simp] theorem State.report_refs (c : ReportClass) (payload : List Byte) : (s.report c payload).refs = s.refs := rfl
@[simp] theorem State.report_fillsShown (c : ReportClass) (payload : List Byte) : (s.report c payload).fillsShown = s.fillsShown := rfl
@[simp] theorem State.report_mics (c : ReportClass) (payload : List Byte) : (s.report c payload).mics = s.mics := rfl
@[simp] theorem State.report_paths (c : ReportClass) (payload : List Byte) : (s.report c payload).paths = s.paths := rfl
@[simp] theorem State.report_pool (c : ReportClass) (payload : List Byte) : (s.report c payload).pool = s.pool := rfl
@[simp] theorem State.report_freeList (c : ReportClass) (payload : List Byte) : (s.report c payload).freeList = s.freeList := rfl
@[simp] theorem State.report_queue (c : ReportClass) (payload : List Byte) : (s.report c payload).queue = s.queue := rfl
@[simp] theorem State.report_rebalance (c : ReportClass) (payload : List Byte) : (s.report c payload).rebalance = s.rebalance := rfl
@[simp] theorem State.report_lowPool (c : ReportClass) (payload : List Byte) : (s.report c payload).lowPool = s.lowPool := rfl
@[simp] theorem State.report_pushSequence (c : ReportClass) (payload : List Byte) : (s.report c payload).pushSequence = s.pushSequence := rfl
@[simp] theorem State.report_session (c : ReportClass) (payload : List Byte) : (s.report c payload).session = s.session := rfl
@[simp] theorem State.report_layout (c : ReportClass) (payload : List Byte) : (s.report c payload).layout = s.layout := rfl
@[simp] theorem State.report_shadow (c : ReportClass) (payload : List Byte) : (s.report c payload).shadow = s.shadow := rfl
@[simp] theorem State.report_staged (c : ReportClass) (payload : List Byte) : (s.report c payload).staged = s.staged := rfl
@[simp] theorem State.report_countdown (c : ReportClass) (payload : List Byte) : (s.report c payload).countdown = s.countdown := rfl
@[simp] theorem State.report_active (c : ReportClass) (payload : List Byte) : (s.report c payload).active = s.active := rfl
@[simp] theorem State.report_inLines (c : ReportClass) (payload : List Byte) : (s.report c payload).inLines = s.inLines := rfl
@[simp] theorem State.report_outLines (c : ReportClass) (payload : List Byte) : (s.report c payload).outLines = s.outLines := rfl

/-! ## `State.modWork` -/

@[simp] theorem State.modWork_pending (f : FrameWork → FrameWork) : (s.modWork f).pending = s.pending := by
  unfold State.modWork; cases s.phase <;> rfl
@[simp] theorem State.modWork_drawn (f : FrameWork → FrameWork) : (s.modWork f).drawn = s.drawn := by
  unfold State.modWork; cases s.phase <;> rfl
@[simp] theorem State.modWork_engine (f : FrameWork → FrameWork) : (s.modWork f).engine = s.engine := by
  unfold State.modWork; cases s.phase <;> rfl
@[simp] theorem State.modWork_frameCounter (f : FrameWork → FrameWork) : (s.modWork f).frameCounter = s.frameCounter := by
  unfold State.modWork; cases s.phase <;> rfl
@[simp] theorem State.modWork_position (f : FrameWork → FrameWork) : (s.modWork f).position = s.position := by
  unfold State.modWork; cases s.phase <;> rfl
@[simp] theorem State.modWork_outNow (f : FrameWork → FrameWork) : (s.modWork f).outNow = s.outNow := by
  unfold State.modWork; cases s.phase <;> rfl
@[simp] theorem State.modWork_outNext (f : FrameWork → FrameWork) : (s.modWork f).outNext = s.outNext := by
  unfold State.modWork; cases s.phase <;> rfl
@[simp] theorem State.modWork_port (f : FrameWork → FrameWork) : (s.modWork f).port = s.port := by
  unfold State.modWork; cases s.phase <;> rfl
@[simp] theorem State.modWork_refs (f : FrameWork → FrameWork) : (s.modWork f).refs = s.refs := by
  unfold State.modWork; cases s.phase <;> rfl
@[simp] theorem State.modWork_fillsShown (f : FrameWork → FrameWork) : (s.modWork f).fillsShown = s.fillsShown := by
  unfold State.modWork; cases s.phase <;> rfl
@[simp] theorem State.modWork_mics (f : FrameWork → FrameWork) : (s.modWork f).mics = s.mics := by
  unfold State.modWork; cases s.phase <;> rfl
@[simp] theorem State.modWork_paths (f : FrameWork → FrameWork) : (s.modWork f).paths = s.paths := by
  unfold State.modWork; cases s.phase <;> rfl
@[simp] theorem State.modWork_pool (f : FrameWork → FrameWork) : (s.modWork f).pool = s.pool := by
  unfold State.modWork; cases s.phase <;> rfl
@[simp] theorem State.modWork_freeList (f : FrameWork → FrameWork) : (s.modWork f).freeList = s.freeList := by
  unfold State.modWork; cases s.phase <;> rfl
@[simp] theorem State.modWork_queue (f : FrameWork → FrameWork) : (s.modWork f).queue = s.queue := by
  unfold State.modWork; cases s.phase <;> rfl
@[simp] theorem State.modWork_rebalance (f : FrameWork → FrameWork) : (s.modWork f).rebalance = s.rebalance := by
  unfold State.modWork; cases s.phase <;> rfl
@[simp] theorem State.modWork_lowPool (f : FrameWork → FrameWork) : (s.modWork f).lowPool = s.lowPool := by
  unfold State.modWork; cases s.phase <;> rfl
@[simp] theorem State.modWork_pushSequence (f : FrameWork → FrameWork) : (s.modWork f).pushSequence = s.pushSequence := by
  unfold State.modWork; cases s.phase <;> rfl
@[simp] theorem State.modWork_session (f : FrameWork → FrameWork) : (s.modWork f).session = s.session := by
  unfold State.modWork; cases s.phase <;> rfl
@[simp] theorem State.modWork_layout (f : FrameWork → FrameWork) : (s.modWork f).layout = s.layout := by
  unfold State.modWork; cases s.phase <;> rfl
@[simp] theorem State.modWork_shadow (f : FrameWork → FrameWork) : (s.modWork f).shadow = s.shadow := by
  unfold State.modWork; cases s.phase <;> rfl
@[simp] theorem State.modWork_staged (f : FrameWork → FrameWork) : (s.modWork f).staged = s.staged := by
  unfold State.modWork; cases s.phase <;> rfl
@[simp] theorem State.modWork_countdown (f : FrameWork → FrameWork) : (s.modWork f).countdown = s.countdown := by
  unfold State.modWork; cases s.phase <;> rfl
@[simp] theorem State.modWork_active (f : FrameWork → FrameWork) : (s.modWork f).active = s.active := by
  unfold State.modWork; cases s.phase <;> rfl
@[simp] theorem State.modWork_inLines (f : FrameWork → FrameWork) : (s.modWork f).inLines = s.inLines := by
  unfold State.modWork; cases s.phase <;> rfl
@[simp] theorem State.modWork_outLines (f : FrameWork → FrameWork) : (s.modWork f).outLines = s.outLines := by
  unfold State.modWork; cases s.phase <;> rfl
@[simp] theorem State.modWork_link (f : FrameWork → FrameWork) : (s.modWork f).link = s.link := by
  unfold State.modWork; cases s.phase <;> rfl

/-! ## Reading back -/

@[simp] theorem State.mic_modMic (m m' : MicLane) (f : Mic → Mic) :
    (s.modMic m f).mic m' = if m' = m then f (s.mic m) else s.mic m' := tablePut_get _ _ _ _

@[simp] theorem State.mic_modEngine (m m' : MicLane) (f : EngineRecord → EngineRecord) :
    (s.modEngine m f).mic m' = if m' = m then { s.mic m with engine := f (s.mic m).engine } else s.mic m' :=
  tablePut_get _ _ _ _

@[simp] theorem State.mic_modTalk (m m' : MicLane) (f : TalkRecord → TalkRecord) :
    (s.modTalk m f).mic m' = if m' = m then { s.mic m with talk := f (s.mic m).talk } else s.mic m' :=
  tablePut_get _ _ _ _

@[simp] theorem State.mic_modOut (m m' : MicLane) (f : OutRecord → OutRecord) :
    (s.modOut m f).mic m' = if m' = m then { s.mic m with out := f (s.mic m).out } else s.mic m' :=
  tablePut_get _ _ _ _

@[simp] theorem State.mic_modRing (m m' : MicLane) (f : Ring → Ring) :
    (s.modRing m f).mic m' = if m' = m then { s.mic m with ring := f (s.mic m).ring } else s.mic m' :=
  tablePut_get _ _ _ _

@[simp] theorem State.path_modPath (m m' : MicLane) (r r' : RefLane) (f : Path → Path) :
    (s.modPath m r f).path m' r' = if m' = m ∧ r' = r then f (s.path m r) else s.path m' r' := by
  unfold State.modPath State.path
  by_cases hm : m' = m
  · subst hm; simp [tablePut_get]
  · simp [tablePut_get, hm]

@[simp] theorem State.segment_modSegment (i j : SegIndex) (f : Segment → Segment) :
    (s.modSegment i f).segment j = if j = i then f (s.segment i) else s.segment j := tablePut_get _ _ _ _

@[simp] theorem State.ref_modRef (r r' : RefLane) (f : RefRecord → RefRecord) :
    (s.modRef r f).ref r' = if r' = r then f (s.ref r) else s.ref r' := tablePut_get _ _ _ _

/-! ## Accessors through updates of other tables -/

@[simp] theorem State.path_modMic (m : MicLane) (f : Mic → Mic) (m' : MicLane) (r' : RefLane) :
    (s.modMic m f).path m' r' = s.path m' r' := rfl
@[simp] theorem State.segment_modMic (m : MicLane) (f : Mic → Mic) (i' : SegIndex) :
    (s.modMic m f).segment i' = s.segment i' := rfl
@[simp] theorem State.ref_modMic (m : MicLane) (f : Mic → Mic) (r' : RefLane) :
    (s.modMic m f).ref r' = s.ref r' := rfl
@[simp] theorem State.path_modEngine (m : MicLane) (f : EngineRecord → EngineRecord) (m' : MicLane) (r' : RefLane) :
    (s.modEngine m f).path m' r' = s.path m' r' := rfl
@[simp] theorem State.segment_modEngine (m : MicLane) (f : EngineRecord → EngineRecord) (i' : SegIndex) :
    (s.modEngine m f).segment i' = s.segment i' := rfl
@[simp] theorem State.ref_modEngine (m : MicLane) (f : EngineRecord → EngineRecord) (r' : RefLane) :
    (s.modEngine m f).ref r' = s.ref r' := rfl
@[simp] theorem State.path_modTalk (m : MicLane) (f : TalkRecord → TalkRecord) (m' : MicLane) (r' : RefLane) :
    (s.modTalk m f).path m' r' = s.path m' r' := rfl
@[simp] theorem State.segment_modTalk (m : MicLane) (f : TalkRecord → TalkRecord) (i' : SegIndex) :
    (s.modTalk m f).segment i' = s.segment i' := rfl
@[simp] theorem State.ref_modTalk (m : MicLane) (f : TalkRecord → TalkRecord) (r' : RefLane) :
    (s.modTalk m f).ref r' = s.ref r' := rfl
@[simp] theorem State.path_modOut (m : MicLane) (f : OutRecord → OutRecord) (m' : MicLane) (r' : RefLane) :
    (s.modOut m f).path m' r' = s.path m' r' := rfl
@[simp] theorem State.segment_modOut (m : MicLane) (f : OutRecord → OutRecord) (i' : SegIndex) :
    (s.modOut m f).segment i' = s.segment i' := rfl
@[simp] theorem State.ref_modOut (m : MicLane) (f : OutRecord → OutRecord) (r' : RefLane) :
    (s.modOut m f).ref r' = s.ref r' := rfl
@[simp] theorem State.path_modRing (m : MicLane) (f : Ring → Ring) (m' : MicLane) (r' : RefLane) :
    (s.modRing m f).path m' r' = s.path m' r' := rfl
@[simp] theorem State.segment_modRing (m : MicLane) (f : Ring → Ring) (i' : SegIndex) :
    (s.modRing m f).segment i' = s.segment i' := rfl
@[simp] theorem State.ref_modRing (m : MicLane) (f : Ring → Ring) (r' : RefLane) :
    (s.modRing m f).ref r' = s.ref r' := rfl
@[simp] theorem State.path_modSlot (m : MicLane) (k : SlotIndex) (f : Slot → Slot) (m' : MicLane) (r' : RefLane) :
    (s.modSlot m k f).path m' r' = s.path m' r' := rfl
@[simp] theorem State.segment_modSlot (m : MicLane) (k : SlotIndex) (f : Slot → Slot) (i' : SegIndex) :
    (s.modSlot m k f).segment i' = s.segment i' := rfl
@[simp] theorem State.ref_modSlot (m : MicLane) (k : SlotIndex) (f : Slot → Slot) (r' : RefLane) :
    (s.modSlot m k f).ref r' = s.ref r' := rfl
@[simp] theorem State.mic_modPath (m : MicLane) (r : RefLane) (f : Path → Path) (m' : MicLane) :
    (s.modPath m r f).mic m' = s.mic m' := rfl
@[simp] theorem State.segment_modPath (m : MicLane) (r : RefLane) (f : Path → Path) (i' : SegIndex) :
    (s.modPath m r f).segment i' = s.segment i' := rfl
@[simp] theorem State.ref_modPath (m : MicLane) (r : RefLane) (f : Path → Path) (r' : RefLane) :
    (s.modPath m r f).ref r' = s.ref r' := rfl
@[simp] theorem State.mic_modSegment (i : SegIndex) (f : Segment → Segment) (m' : MicLane) :
    (s.modSegment i f).mic m' = s.mic m' := rfl
@[simp] theorem State.path_modSegment (i : SegIndex) (f : Segment → Segment) (m' : MicLane) (r' : RefLane) :
    (s.modSegment i f).path m' r' = s.path m' r' := rfl
@[simp] theorem State.ref_modSegment (i : SegIndex) (f : Segment → Segment) (r' : RefLane) :
    (s.modSegment i f).ref r' = s.ref r' := rfl
@[simp] theorem State.mic_modRef (r : RefLane) (f : RefRecord → RefRecord) (m' : MicLane) :
    (s.modRef r f).mic m' = s.mic m' := rfl
@[simp] theorem State.path_modRef (r : RefLane) (f : RefRecord → RefRecord) (m' : MicLane) (r' : RefLane) :
    (s.modRef r f).path m' r' = s.path m' r' := rfl
@[simp] theorem State.segment_modRef (r : RefLane) (f : RefRecord → RefRecord) (i' : SegIndex) :
    (s.modRef r f).segment i' = s.segment i' := rfl
@[simp] theorem State.mic_modInLine (k : InLineIndex) (f : InLine → InLine) (m' : MicLane) :
    (s.modInLine k f).mic m' = s.mic m' := rfl
@[simp] theorem State.path_modInLine (k : InLineIndex) (f : InLine → InLine) (m' : MicLane) (r' : RefLane) :
    (s.modInLine k f).path m' r' = s.path m' r' := rfl
@[simp] theorem State.segment_modInLine (k : InLineIndex) (f : InLine → InLine) (i' : SegIndex) :
    (s.modInLine k f).segment i' = s.segment i' := rfl
@[simp] theorem State.ref_modInLine (k : InLineIndex) (f : InLine → InLine) (r' : RefLane) :
    (s.modInLine k f).ref r' = s.ref r' := rfl
@[simp] theorem State.mic_modOutLine (k : OutLineIndex) (f : OutLine → OutLine) (m' : MicLane) :
    (s.modOutLine k f).mic m' = s.mic m' := rfl
@[simp] theorem State.path_modOutLine (k : OutLineIndex) (f : OutLine → OutLine) (m' : MicLane) (r' : RefLane) :
    (s.modOutLine k f).path m' r' = s.path m' r' := rfl
@[simp] theorem State.segment_modOutLine (k : OutLineIndex) (f : OutLine → OutLine) (i' : SegIndex) :
    (s.modOutLine k f).segment i' = s.segment i' := rfl
@[simp] theorem State.ref_modOutLine (k : OutLineIndex) (f : OutLine → OutLine) (r' : RefLane) :
    (s.modOutLine k f).ref r' = s.ref r' := rfl
@[simp] theorem State.mic_modLink (f : Link → Link) (m' : MicLane) :
    (s.modLink f).mic m' = s.mic m' := rfl
@[simp] theorem State.path_modLink (f : Link → Link) (m' : MicLane) (r' : RefLane) :
    (s.modLink f).path m' r' = s.path m' r' := rfl
@[simp] theorem State.segment_modLink (f : Link → Link) (i' : SegIndex) :
    (s.modLink f).segment i' = s.segment i' := rfl
@[simp] theorem State.ref_modLink (f : Link → Link) (r' : RefLane) :
    (s.modLink f).ref r' = s.ref r' := rfl
@[simp] theorem State.mic_modFault (k : FaultKind) (f : FaultEntry → FaultEntry) (m' : MicLane) :
    (s.modFault k f).mic m' = s.mic m' := rfl
@[simp] theorem State.path_modFault (k : FaultKind) (f : FaultEntry → FaultEntry) (m' : MicLane) (r' : RefLane) :
    (s.modFault k f).path m' r' = s.path m' r' := rfl
@[simp] theorem State.segment_modFault (k : FaultKind) (f : FaultEntry → FaultEntry) (i' : SegIndex) :
    (s.modFault k f).segment i' = s.segment i' := rfl
@[simp] theorem State.ref_modFault (k : FaultKind) (f : FaultEntry → FaultEntry) (r' : RefLane) :
    (s.modFault k f).ref r' = s.ref r' := rfl
@[simp] theorem State.mic_report (c : ReportClass) (payload : List Byte) (m' : MicLane) :
    (s.report c payload).mic m' = s.mic m' := rfl
@[simp] theorem State.path_report (c : ReportClass) (payload : List Byte) (m' : MicLane) (r' : RefLane) :
    (s.report c payload).path m' r' = s.path m' r' := rfl
@[simp] theorem State.segment_report (c : ReportClass) (payload : List Byte) (i' : SegIndex) :
    (s.report c payload).segment i' = s.segment i' := rfl
@[simp] theorem State.ref_report (c : ReportClass) (payload : List Byte) (r' : RefLane) :
    (s.report c payload).ref r' = s.ref r' := rfl
@[simp] theorem State.mic_modWork (f : FrameWork → FrameWork) (m' : MicLane) :
    (s.modWork f).mic m' = s.mic m' := by simp [State.mic]
@[simp] theorem State.path_modWork (f : FrameWork → FrameWork) (m' : MicLane) (r' : RefLane) :
    (s.modWork f).path m' r' = s.path m' r' := by simp [State.path]
@[simp] theorem State.segment_modWork (f : FrameWork → FrameWork) (i' : SegIndex) :
    (s.modWork f).segment i' = s.segment i' := by simp [State.segment]
@[simp] theorem State.ref_modWork (f : FrameWork → FrameWork) (r' : RefLane) :
    (s.modWork f).ref r' = s.ref r' := by simp [State.ref]

/-! ## `State.forEach` -/

@[simp] theorem State.forEach_nil {α : Type} (f : α → State → State) : s.forEach [] f = s := rfl

@[simp] theorem State.forEach_cons {α : Type} (x : α) (xs : List α) (f : α → State → State) :
    s.forEach (x :: xs) f = (f x s).forEach xs f := rfl

theorem State.forEach_append {α : Type} (xs ys : List α) (f : α → State → State) :
    s.forEach (xs ++ ys) f = (s.forEach xs f).forEach ys f := by simp [State.forEach]

/-- What every single change keeps, the whole pass keeps. -/
theorem State.forEach_keeps {α β : Type} (g : State → β) (f : α → State → State)
    (h : ∀ x t, g (f x t) = g t) (xs : List α) (s : State) : g (s.forEach xs f) = g s := by
  induction xs generalizing s with
  | nil => rfl
  | cons x xs ih => rw [State.forEach_cons, ih, h]

/-- A property every single change keeps, the whole pass keeps. -/
theorem State.forEach_invariant {α : Type} (P : State → Prop) (f : α → State → State)
    (h : ∀ x t, P t → P (f x t)) (xs : List α) (s : State) (hs : P s) : P (s.forEach xs f) := by
  induction xs generalizing s with
  | nil => exact hs
  | cons x xs ih => exact ih _ (h x s hs)

end Sys2Proof.Machine
end

