-- ==== Sys2Proof/Laws/Ops.lean ====
section
/-! SUPPORT. What each shared operation can do, said once: the free list (R63, R64), the chains (R68, R72), faults
(R179), modes and output lines (R56, R168), and the acceptance of a request (R172). Later proofs cite these lemmas
in place of unfolding the operation. -/

namespace Sys2Proof.Machine

/-! ## Segments changed one after another -/

/-- A pass over segments changes the pool and nothing else. -/
theorem State.forEach_modSegment_frame {α : Type} (at' : α → SegIndex) (f : α → Segment → Segment) (xs : List α)
    (s : State) :
    s.forEach xs (fun x t => t.modSegment (at' x) (f x)) =
      { s with pool := (s.forEach xs fun x t => t.modSegment (at' x) (f x)).pool } := by
  induction xs generalizing s with
  | nil => rfl
  | cons x xs ih => rw [State.forEach_cons, ih]; rfl

/-- A pass leaves a segment it does not name. -/
theorem State.forEach_modSegment_other {α : Type} (at' : α → SegIndex) (f : α → Segment → Segment) (i : SegIndex)
    (xs : List α) (s : State) (h : ∀ x ∈ xs, at' x ≠ i) :
    (s.forEach xs fun x t => t.modSegment (at' x) (f x)).segment i = s.segment i := by
  induction xs generalizing s with
  | nil => rfl
  | cons x xs ih =>
    rw [State.forEach_cons, ih _ fun y hy => h y (List.mem_cons_of_mem _ hy), State.segment_modSegment,
      if_neg fun e => h x List.mem_cons_self e.symm]

/-- One change, the same for each segment and idempotent, acts once on every segment named. -/
theorem State.forEach_modSegment_same (f : Segment → Segment) (hf : ∀ x, f (f x) = f x) (i : SegIndex)
    (xs : List SegIndex) (s : State) :
    (s.forEach xs fun j t => t.modSegment j f).segment i = if i ∈ xs then f (s.segment i) else s.segment i := by
  induction xs generalizing s with
  | nil => simp
  | cons x xs ih =>
    rw [State.forEach_cons, ih, State.segment_modSegment]
    by_cases hx : i = x
    · subst hx; by_cases hi : i ∈ xs <;> simp [hi, hf]
    · by_cases hi : i ∈ xs <;> simp [hx, hi]

/-! ## The free list (R63, R64) -/

/-- A release changes the pool and the free list alone. -/
theorem State.release_frame (segs : List SegIndex) (s : State) :
    s.release segs = { s with pool := (s.release segs).pool, freeList := s.freeList ++ segs } := by
  unfold State.release
  rw [State.forEach_modSegment_frame (fun i => i)]

/-- A released segment is FREE with energy 0 and keeps its coefficients; any other segment is as before (R64). -/
theorem State.release_segment (segs : List SegIndex) (i : SegIndex) (s : State) :
    (s.release segs).segment i =
      if i ∈ segs then { s.segment i with owner := .free, energy := 0 } else s.segment i :=
  State.forEach_modSegment_same (fun x => { x with owner := .free, energy := 0 }) (fun _ => rfl) i segs s

/-- An allocation changes the pool and the free list alone. -/
theorem State.take_frame (k : Nat) (s : State) :
    s.take k = { s with pool := (s.take k).pool, freeList := s.freeList.drop k } := by
  unfold State.take
  rw [State.forEach_modSegment_frame (fun i => i)]

/-- An allocated segment is zero-filled with energy 0; any other segment is as before (R63). -/
theorem State.take_segment (k : Nat) (i : SegIndex) (s : State) :
    (s.take k).segment i =
      if i ∈ s.freeList.take k then { s.segment i with coefs := zeroCoefs, energy := 0 } else s.segment i :=
  State.forEach_modSegment_same (fun x => { x with coefs := zeroCoefs, energy := 0 }) (fun _ => rfl) i _ s

/-- Giving owners changes the pool alone. -/
theorem State.own_frame (owner : Nat → Owner) (segs : List SegIndex) (s : State) :
    s.own owner segs = { s with pool := (s.own owner segs).pool } :=
  State.forEach_modSegment_frame Prod.fst (fun p x => { x with owner := owner p.2 }) _ s

/-- A segment that is given no owner is as before. -/
theorem State.own_segment_other (owner : Nat → Owner) (segs : List SegIndex) (i : SegIndex) (s : State)
    (h : i ∉ segs) : (s.own owner segs).segment i = s.segment i :=
  State.forEach_modSegment_other Prod.fst (fun p x => { x with owner := owner p.2 }) i _ s fun _ hp e =>
    h (e ▸ List.fst_mem_of_mem_zipIdx hp)

/-- Giving owners keeps every segment's coefficients and energy. -/
theorem State.own_segment_contents (owner : Nat → Owner) (segs : List SegIndex) (i : SegIndex) (s : State) :
    ((s.own owner segs).segment i).coefs = (s.segment i).coefs ∧
      ((s.own owner segs).segment i).energy = (s.segment i).energy := by
  unfold State.own
  constructor
  · refine State.forEach_keeps (fun t => (t.segment i).coefs) _ (fun p t => ?_) _ s
    simp only [State.segment_modSegment]; split
    · next h => rw [h]
    · rfl
  · refine State.forEach_keeps (fun t => (t.segment i).energy) _ (fun p t => ?_) _ s
    simp only [State.segment_modSegment]; split
    · next h => rw [h]
    · rfl

/-! ## Chains (R68) -/

/-- Setting a chain changes that path and the pool alone. -/
theorem State.setChain_frame (m : MicLane) (r : RefLane) (chain : List SegIndex) (s : State) :
    s.setChain m r chain =
      { s.modPath m r fun p => { p with chain := chain } with pool := (s.setChain m r chain).pool } := by
  unfold State.setChain
  rw [State.own_frame]

/-- The paths after a chain is set. -/
theorem State.setChain_path (m m' : MicLane) (r r' : RefLane) (chain : List SegIndex) (s : State) :
    (s.setChain m r chain).path m' r' =
      if m' = m ∧ r' = r then { s.path m r with chain := chain } else s.path m' r' := by
  rw [State.setChain_frame]
  exact State.path_modPath s m m' r r' fun p => { p with chain := chain }

/-- The segments outside a chain are left when it is set. -/
theorem State.setChain_segment_other (m : MicLane) (r : RefLane) (chain : List SegIndex) (i : SegIndex) (s : State)
    (h : i ∉ chain) : (s.setChain m r chain).segment i = s.segment i := by
  unfold State.setChain
  rw [State.own_segment_other _ _ _ _ h]; simp

/-- A cut changes that path, the pool and the free list alone, and the free list gains the rest of the chain, in chain
order (R68, R76). -/
theorem State.cutChain_frame (m : MicLane) (r : RefLane) (k : Nat) (s : State) :
    s.cutChain m r k =
      { s with
        paths := (s.modPath m r fun p => { p with chain := p.chain.take k }).paths
        pool := (s.cutChain m r k).pool
        freeList := s.freeList ++ (s.path m r).chain.drop k } := by
  unfold State.cutChain
  rw [State.release_frame]; rfl

/-- The paths after a cut. -/
theorem State.cutChain_path (m m' : MicLane) (r r' : RefLane) (k : Nat) (s : State) :
    (s.cutChain m r k).path m' r' =
      if m' = m ∧ r' = r then { s.path m r with chain := (s.path m r).chain.take k } else s.path m' r' := by
  rw [State.cutChain_frame]
  exact State.path_modPath s m m' r r' fun p => { p with chain := p.chain.take k }

/-- The segments after a cut: those cut off are FREE with energy 0. -/
theorem State.cutChain_segment (m : MicLane) (r : RefLane) (k : Nat) (i : SegIndex) (s : State) :
    (s.cutChain m r k).segment i =
      if i ∈ (s.path m r).chain.drop k then { s.segment i with owner := .free, energy := 0 } else s.segment i := by
  unfold State.cutChain
  rw [State.release_segment]; simp

/-! ## Faults, modes, output lines -/

/-- Halting a microphone changes its record and notes it in the frame end in progress. -/
theorem State.haltMic_frame (k : FaultKind) (m : MicLane) (s : State) :
    s.haltMic k m =
      { s with
        mics := tablePut s.mics m
          { s.mic m with
            haltKinds := (s.mic m).haltKinds ||| bit16 k.code.val, talk := { (s.mic m).talk with halt := true } }
        phase := (s.modWork fun w => { w with haltSet := tablePut w.haltSet m (w.haltSet.get m ||| bit16 k.code.val) }).phase } := by
  cases h : s.phase <;> simp [State.haltMic, State.modWork, State.modMic, h]

/-- A fault changes the link and, where it halts one, a microphone, which the frame end in progress notes (R179). -/
theorem State.fault_frame (k : FaultKind) (lane : Option MicLane) (d : Detail) (s : State) :
    s.fault k lane d =
      { s with
        link := (s.fault k lane d).link, mics := (s.fault k lane d).mics, phase := (s.fault k lane d).phase } := by
  obtain ⟨l, v, p, h⟩ : ∃ l v p, s.fault k lane d = { s with link := l, mics := v, phase := p } := by
    have link : ∀ (t : State) (g : Link → Link), (∃ l v p, t = { s with link := l, mics := v, phase := p }) →
        ∃ l v p, t.modLink g = { s with link := l, mics := v, phase := p } := by
      rintro t g ⟨l, v, p, rfl⟩; exact ⟨_, _, _, rfl⟩
    have halt : ∀ (t : State) (m : MicLane), (∃ l v p, t = { s with link := l, mics := v, phase := p }) →
        ∃ l v p, t.haltMic k m = { s with link := l, mics := v, phase := p } := by
      rintro t m ⟨l, v, p, rfl⟩; rw [State.haltMic_frame]; exact ⟨_, _, _, rfl⟩
    have counted : ∃ l v p, s.modFault k (FaultEntry.count1 k lane) = { s with link := l, mics := v, phase := p } :=
      link s _ ⟨s.link, s.mics, s.phase, rfl⟩
    unfold State.fault
    dsimp only
    split
    · exact counted
    · cases lane with
      | none => exact link _ _ (link _ _ counted)
      | some m =>
        dsimp only
        split
        · exact halt _ _ (link _ _ (link _ _ counted))
        · exact link _ _ (link _ _ counted)
  rw [h]

/-- A fault outside a frame end in progress leaves the phase. -/
theorem State.fault_phase (k : FaultKind) (lane : Option MicLane) (d : Detail) (s : State)
    (h : ∀ w, s.phase ≠ .taking w) : (s.fault k lane d).phase = s.phase := by
  have halt : ∀ (t : State) (m : MicLane), t.phase = s.phase → (t.haltMic k m).phase = s.phase := by
    intro t m ht
    rw [State.haltMic_frame]
    cases hp : s.phase with
    | taking w => exact absurd hp (h w)
    | sampling => simp [State.modWork, ht, hp]
    | due => simp [State.modWork, ht, hp]
  unfold State.fault
  dsimp only
  split
  · rfl
  · cases lane with
    | none => rfl
    | some m =>
      dsimp only
      split
      · exact halt _ _ rfl
      · rfl

/-- A device-scoped fault changes the link alone. -/
theorem State.fault_device_frame (k : FaultKind) (d : Detail) (s : State) :
    s.fault k none d = { s with link := (s.fault k none d).link } := by
  unfold State.fault
  dsimp only
  split <;> rfl

/-- Deriving the modes changes the microphones alone (R56). -/
theorem State.deriveModes_frame (s : State) : s.deriveModes = { s with mics := s.deriveModes.mics } := by
  have key : ∀ (xs : List MicLane) (t : State),
      t.forEach xs (fun m t => t.modTalk m fun x => { x with mode := t.derivedMode m }) =
        { t with mics := (t.forEach xs fun m t => t.modTalk m fun x => { x with mode := t.derivedMode m }).mics } := by
    intro xs
    induction xs with
    | nil => intro t; rfl
    | cons x xs ih => intro t; rw [State.forEach_cons, ih]; rfl
  exact key _ s

/-- What an acceptance does at its end changes modes and output lines alone, and nothing while RUNNING. -/
theorem State.settleParked_frame (s : State) :
    s.settleParked = { s with mics := s.settleParked.mics, outLines := s.settleParked.outLines } := by
  unfold State.settleParked
  split
  · obtain ⟨v, hv⟩ : ∃ v, s.deriveModes = { s with mics := v } := ⟨_, s.deriveModes_frame⟩
    rw [hv]; rfl
  · rfl

theorem State.settleParked_running (s : State) (h : s.engine = .running) : s.settleParked = s := by
  simp [State.settleParked, State.parked, h]

/-! ## Acceptance of a request (R172) -/

/-- A frame that finds the request slot full is dropped. -/
theorem State.request_full (i : Instr) (f : Frame) (block : State → Answer) (s : State) (hf : requestFrame? i = some f)
    (h : s.link.request ≠ none) : s.request i block = (s.driveZeros (8 + f.payload.length)).dropFrame := by
  have h' : s.link.request.isSome = true := Option.isSome_iff_ne_none.mpr h
  simp [State.request, hf, h']

/-- A frame of a length its KIND does not allow is discarded. -/
theorem State.request_badLength (i : Instr) (f : Frame) (block : State → Answer) (s : State)
    (hf : requestFrame? i = some f) (h : s.link.request = none) (hl : lengthAllowed f.kind f.payload.length = false) :
    s.request i block = (s.driveZeros (8 + f.payload.length)).formatFault syncByte f.kind f.tag 0#8 := by
  simp [State.request, hf, h, hl]

/-- Any other frame reaches its block, whose answer fills the reply slot. -/
theorem State.request_accepted (i : Instr) (f : Frame) (block : State → Answer) (s : State)
    (hf : requestFrame? i = some f) (h : s.link.request = none) (hl : lengthAllowed f.kind f.payload.length = true) :
    s.request i block = State.fillSlots f (block s) := by
  simp [State.request, hf, h, hl]

/-- The slots after an answer, and everything but the link is as the block left it (R172, R173). -/
theorem State.fillSlots_frame (f : Frame) (answer : Answer) :
    State.fillSlots f answer = { answer.2 with link := (State.fillSlots f answer).link } ∧
      (State.fillSlots f answer).link.request = some f ∧
      (State.fillSlots f answer).link.reply = some ⟨f.kind + 0x80#8, f.tag, answer.1⟩ ∧
      (State.fillSlots f answer).link.reports = answer.2.link.reports ∧
      (State.fillSlots f answer).link.sdo = List.replicate (8 + f.payload.length) 0#8 :=
  ⟨rfl, rfl, rfl, rfl, rfl⟩

end Sys2Proof.Machine
end

