-- ==== Sys2Proof/Laws/Settle.lean ====
section
/-! SUPPORT. What an acceptance in PARKED leaves of the modes and the output lines, said once: modes derived from their causes
(R56) and lines that show their sources (R168). Later proofs cite these lemmas in place of unfolding `State.settleParked`. -/

namespace Sys2Proof.Machine

/-! ## Microphones changed one after another -/

/-- A pass over distinct microphones changes each record it names once, by itself, and leaves the others. -/
theorem State.forEach_modMic_mic (f : MicLane → Mic → Mic) (m : MicLane) (xs : List MicLane) (h : xs.Nodup) (s : State) :
    (s.forEach xs fun x t => t.modMic x (f x)).mic m = if m ∈ xs then f m (s.mic m) else s.mic m := by
  induction xs generalizing s with
  | nil => rfl
  | cons x xs ih =>
    obtain ⟨hx, hs⟩ := List.nodup_cons.mp h
    rw [State.forEach_cons, ih hs, State.mic_modMic]
    by_cases e : m = x
    · subst e; simp [hx]
    · simp [e]

theorem allMics_nodup : allMics.Nodup := by decide

theorem State.configuredMics_nodup (s : State) : s.configuredMics.Nodup := allMics_nodup.filter _

theorem State.mem_configuredMics (s : State) (m : MicLane) : m ∈ s.configuredMics ↔ m.val < s.layout.mics := by
  simp [State.configuredMics, Layout.hasMic, mem_allMics]

/-! ## Modes (R56) -/

/-- Deriving the modes sets the mode of every configured microphone and changes nothing else of any. -/
theorem State.deriveModes_mic (m : MicLane) (s : State) :
    s.deriveModes.mic m =
      if m.val < s.layout.mics then { s.mic m with talk := { (s.mic m).talk with mode := s.derivedMode m } } else s.mic m := by
  have h := State.forEach_modMic_mic
    (fun _ x => { x with talk := { x.talk with mode := deriveMode x.talk x.holdSpan } }) m s.configuredMics
    s.configuredMics_nodup s
  simp only [State.mem_configuredMics] at h
  exact h

/-- The modes that a derivation leaves follow from the causes it leaves, and nothing else of the microphones moves (R56). -/
theorem State.deriveModes_movesModesAlone (s : State) : s.movesModesAlone s.deriveModes := by
  refine ⟨fun m => ⟨fun h => ?_, fun h => ?_⟩, fun m => ?_⟩
  · simp [State.modeFollows, State.deriveModes_mic, h, State.derivedMode, deriveMode]
  · simp [State.deriveModes_mic, Nat.not_lt.mpr h]
  · rw [State.deriveModes_mic]; split <;> rfl

/-! ## Output lines (R168) -/

/-- Some microphone an entry's mask covers is as `p` says, where one is among those covered. -/
theorem State.someMasked_iff (s : State) (mask : BitVec 16) (p : MicLane → Prop) :
    s.someMasked mask p ↔ ∃ m ∈ s.covered mask, p m := by
  simp only [State.someMasked, State.covered, List.mem_filter, State.mem_configuredMics, maskHas, and_assoc]

/-- The value of a source, outside a frame end in progress and with no rollback to show, is high where R168 says. -/
theorem State.sourceValue_iff (s : State) (h : ∀ w, s.phase ≠ .taking w) (e : OutEntry) :
    s.sourceValue (fun _ => false) e = true ↔ s.sourceHigh e := by
  have lost : s.lossState = s.port.lost := by
    cases hp : s.phase with
    | taking w => exact absurd hp (h w)
    | sampling => simp [State.lossState, hp]
    | due => simp [State.lossState, hp]
  cases hs : e.source <;>
    simp [State.sourceValue, State.sourceHigh, hs, State.someMasked_iff, lost, OutRecord.muted, List.eq_nil_iff_forall_not_mem]

/-- Recomputed, every output line shows its source, and its entry stands (R168). -/
theorem State.updateOutputs_shows (s : State) (h : ∀ w, s.phase ≠ .taking w) :
    (s.updateOutputs fun _ => false).outLinesShow ∧
      ∀ k, (s.updateOutputs fun _ => false).outLines.get k =
        { s.outLines.get k with value := ((s.updateOutputs fun _ => false).outLines.get k).value } := by
  refine ⟨fun k => ?_, fun k => ?_⟩
  · have same : (s.updateOutputs fun _ => false).sourceHigh (s.outLines.get k).entry =
        s.sourceHigh (s.outLines.get k).entry := rfl
    simp only [State.updateOutputs, tableMap_get, Bool.xor_assoc, Bool.xor_self, Bool.xor_false]
    exact (s.sourceValue_iff h _).trans (iff_of_eq same.symm)
  · simp [State.updateOutputs]

/-! ## The end of an acceptance in PARKED -/

/-- What an acceptance in PARKED leaves: modes that follow their causes, nothing else of the microphones moved, and outside a
frame end in progress output lines that show their sources, their entries kept (R56, R168). -/
theorem State.settleParked_spec (s : State) (hp : s.engine = .parked) :
    s.movesModesAlone s.settleParked ∧
      (∀ k, s.settleParked.outLines.get k = { s.outLines.get k with value := (s.settleParked.outLines.get k).value }) ∧
      ((∀ w, s.phase ≠ .taking w) → s.settleParked.outLinesShow) := by
  have e : s.settleParked = s.deriveModes.updateOutputs fun _ => false := by simp [State.settleParked, State.parked, hp]
  obtain ⟨v, hv⟩ : ∃ v, s.deriveModes = { s with mics := v } := ⟨_, s.deriveModes_frame⟩
  refine ⟨?_, fun k => ?_, fun h => ?_⟩
  · rw [e]; exact s.deriveModes_movesModesAlone
  · rw [e, hv]; simp [State.updateOutputs]
  · rw [e]
    refine (State.updateOutputs_shows _ fun w => ?_).1
    rw [hv]; exact h w

end Sys2Proof.Machine
end

