-- ==== Sys2Proof/Laws/Still.lean ====
section
/-! SUPPORT. What no piece of frame-end work changes: the waiting commands, the engine state, the layout, the sample
position, the frame counter, the output samples, the adapt gates, and the list of work still to be taken. One lemma per
shared operation says so, and `State.runTask_still` says it of every piece of work. -/

namespace Sys2Proof

/-- Two tables are equal where they hold the same at every index. -/
theorem table_ext {α : Type} {n : Nat} {v w : Vector α n} (h : ∀ i : Fin n, v.get i = w.get i) : v = w :=
  Vector.ext fun j hj => by simpa only [Vector.get_eq_getElem] using h ⟨j, hj⟩

theorem tableMap_tablePut {α β : Type} {n : Nat} (f : α → β) (v : Vector α n) (i : Fin n) (a : α) :
    tableMap f (tablePut v i a) = tablePut (tableMap f v) i (f a) :=
  table_ext fun j => by simp only [tableMap_get, tablePut_get, apply_ite f]

@[simp] theorem tablePut_same {α : Type} {n : Nat} (v : Vector α n) (i : Fin n) : tablePut v i (v.get i) = v :=
  table_ext fun j => by rw [tablePut_get]; split <;> simp_all

end Sys2Proof

namespace Sys2Proof.Machine

/-- What a frame end's work leaves alone in the record of the frame end itself. -/
structure WorkShape where
  /-- Work still to be taken. -/
  todo : List Task
  /-- The set that governed the frame just ended. -/
  governing : Params
  /-- Adapting-frame flags. -/
  adapting : Vector Bool 16
  /-- Settled flags before the frame end. -/
  settledBefore : Vector Bool 16
  /-- Pinned flags before the frame end. -/
  pinnedBefore : Vector (Vector Bool 4) 16

/-- The part of a frame end's record its work leaves alone. -/
def FrameWork.shape (w : FrameWork) : WorkShape := ⟨w.todo, w.governing, w.adapting, w.settledBefore, w.pinnedBefore⟩

theorem FrameWork.shape_def (w : FrameWork) :
    w.shape = ⟨w.todo, w.governing, w.adapting, w.settledBefore, w.pinnedBefore⟩ := (rfl)

/-- Where the part stands with the end of the frame, in what frame-end work leaves alone. -/
inductive PhaseShape where
  /-- Samples are being taken. -/
  | sampling
  /-- A frame end is due. -/
  | due
  /-- A frame end is in progress. -/
  | taking (w : WorkShape)

/-- The shape of a phase. -/
def FramePhase.shape : FramePhase → PhaseShape
  | .sampling => .sampling
  | .due => .due
  | .taking w => .taking w.shape

/-- What no piece of frame-end work changes. -/
structure Still where
  /-- Waiting commands. -/
  pending : List Instr
  /-- Engine state. -/
  engine : EngineState
  /-- Phase. -/
  phase : PhaseShape
  /-- Sample position. -/
  position : Nat
  /-- Frame counter. -/
  frameCounter : BitVec 32
  /-- Samples the output port carries. -/
  outNow : Vector Int 16
  /-- Samples formed for the next period. -/
  outNext : Vector Int 16
  /-- Layout. -/
  layout : Layout
  /-- Adapt gates. -/
  gates : Vector (Vector Bool 4) 16
  /-- Fill counts QUERY.PATH shows. -/
  fillsShown : Vector Nat 4

/-- The still part of a state. -/
def State.still (s : State) : Still where
  pending := s.pending
  engine := s.engine
  phase := s.phase.shape
  position := s.position
  frameCounter := s.frameCounter
  outNow := s.outNow
  outNext := s.outNext
  layout := s.layout
  gates := tableMap (tableMap Path.gate) s.paths
  fillsShown := s.fillsShown

variable (s : State)

/-! ## Updates -/

@[simp] theorem State.modMic_still (m : MicLane) (f : Mic → Mic) : (s.modMic m f).still = s.still := (rfl)
@[simp] theorem State.modEngine_still (m : MicLane) (f : EngineRecord → EngineRecord) :
    (s.modEngine m f).still = s.still := (rfl)
@[simp] theorem State.modTalk_still (m : MicLane) (f : TalkRecord → TalkRecord) :
    (s.modTalk m f).still = s.still := (rfl)
@[simp] theorem State.modOut_still (m : MicLane) (f : OutRecord → OutRecord) : (s.modOut m f).still = s.still := (rfl)
@[simp] theorem State.modRing_still (m : MicLane) (f : Ring → Ring) : (s.modRing m f).still = s.still := (rfl)
@[simp] theorem State.modSlot_still (m : MicLane) (k : SlotIndex) (f : Slot → Slot) :
    (s.modSlot m k f).still = s.still := (rfl)
@[simp] theorem State.modSegment_still (i : SegIndex) (f : Segment → Segment) :
    (s.modSegment i f).still = s.still := (rfl)
@[simp] theorem State.modRef_still (r : RefLane) (f : RefRecord → RefRecord) : (s.modRef r f).still = s.still := (rfl)
@[simp] theorem State.modInLine_still (k : InLineIndex) (f : InLine → InLine) :
    (s.modInLine k f).still = s.still := (rfl)
@[simp] theorem State.modOutLine_still (k : OutLineIndex) (f : OutLine → OutLine) :
    (s.modOutLine k f).still = s.still := (rfl)
@[simp] theorem State.modLink_still (f : Link → Link) : (s.modLink f).still = s.still := (rfl)
@[simp] theorem State.modFault_still (k : FaultKind) (f : FaultEntry → FaultEntry) :
    (s.modFault k f).still = s.still := (rfl)
@[simp] theorem State.report_still (c : ReportClass) (p : List Byte) : (s.report c p).still = s.still := (rfl)
@[simp] theorem State.draw_still : s.draw.2.still = s.still := (rfl)

@[simp] theorem State.modPath_still (m : MicLane) (r : RefLane) (f : Path → Path) (h : ∀ p, (f p).gate = p.gate) :
    (s.modPath m r f).still = s.still := by
  simp only [State.still, State.modPath, State.path, tableMap_tablePut, h]
  have inner : tablePut (tableMap Path.gate (s.paths.get m)) r ((s.paths.get m).get r).gate
      = (tableMap (tableMap Path.gate) s.paths).get m := by
    rw [tableMap_get, ← tableMap_get Path.gate, tablePut_same]
  rw [inner, tablePut_same]

@[simp] theorem State.modWork_still (f : FrameWork → FrameWork) (h : ∀ w, (f w).shape = w.shape) :
    (s.modWork f).still = s.still := by
  unfold State.modWork
  cases hp : s.phase <;> simp [State.still, FramePhase.shape, hp, h]

@[simp] theorem State.forEach_still {α : Type} (f : α → State → State) (h : ∀ x t, (f x t).still = t.still)
    (xs : List α) : (s.forEach xs f).still = s.still := State.forEach_keeps State.still f h xs s

@[simp] theorem State.mics_still (v : Vector Mic 16) : ({ s with mics := v } : State).still = s.still := (rfl)
@[simp] theorem State.refs_still (v : Vector RefRecord 4) : ({ s with refs := v } : State).still = s.still := (rfl)
@[simp] theorem State.port_still (v : RefPort) : ({ s with port := v } : State).still = s.still := (rfl)
@[simp] theorem State.portRefs_still (v : RefPort) (w : Vector RefRecord 4) :
    ({ s with port := v, refs := w } : State).still = s.still := (rfl)
@[simp] theorem State.freeList_still (v : List SegIndex) : ({ s with freeList := v } : State).still = s.still := (rfl)
@[simp] theorem State.queue_still (v : List GrowRequest) : ({ s with queue := v } : State).still = s.still := (rfl)
@[simp] theorem State.rebalance_still (v : Nat) : ({ s with rebalance := v } : State).still = s.still := (rfl)
@[simp] theorem State.lowPool_still (v : Bool) : ({ s with lowPool := v } : State).still = s.still := (rfl)
@[simp] theorem State.session_still (v : Option Session) : ({ s with session := v } : State).still = s.still := (rfl)
@[simp] theorem State.pushSequence_still (v : BitVec 32) :
    ({ s with pushSequence := v } : State).still = s.still := (rfl)
@[simp] theorem State.countdown_still (v : Nat) : ({ s with countdown := v } : State).still = s.still := (rfl)
@[simp] theorem State.inLines_still (v : Vector InLine 8) : ({ s with inLines := v } : State).still = s.still := (rfl)
@[simp] theorem State.outLines_still (v : Vector OutLine 4) : ({ s with outLines := v } : State).still = s.still := (rfl)
@[simp] theorem State.drawn_still (v : Nat) : ({ s with drawn := v } : State).still = s.still := (rfl)

/-! ## Ops -/

@[simp] theorem State.haltMic_still (k : FaultKind) (m : MicLane) : (s.haltMic k m).still = s.still := by
  simp [State.haltMic, FrameWork.shape_def]

@[simp] theorem State.fault_still (k : FaultKind) (lane : Option MicLane) (d : Detail) :
    (s.fault k lane d).still = s.still := by
  unfold State.fault; dsimp only; repeat' split
  all_goals simp

@[simp] theorem State.release_still (segs : List SegIndex) : (s.release segs).still = s.still := by
  simp [State.release]

@[simp] theorem State.take_still (k : Nat) : (s.take k).still = s.still := by simp [State.take]

@[simp] theorem State.own_still (o : Nat → Owner) (segs : List SegIndex) : (s.own o segs).still = s.still := by
  simp [State.own]

@[simp] theorem State.copySegment_still (a b : SegIndex) : (s.copySegment a b).still = s.still := (rfl)

@[simp] theorem State.copySegments_still (pairs : List (SegIndex × SegIndex)) :
    (s.copySegments pairs).still = s.still := by simp [State.copySegments]

@[simp] theorem State.setChain_still (m : MicLane) (r : RefLane) (c : List SegIndex) :
    (s.setChain m r c).still = s.still := by simp [State.setChain]

@[simp] theorem State.setLead_still (m : MicLane) (r : RefLane) (n : Nat) : (s.setLead m r n).still = s.still := by
  simp [State.setLead]

@[simp] theorem State.releaseChain_still (m : MicLane) (r : RefLane) : (s.releaseChain m r).still = s.still := by
  simp [State.releaseChain]

@[simp] theorem State.releaseChains_still (m : MicLane) : (s.releaseChains m).still = s.still := by
  simp [State.releaseChains]

@[simp] theorem State.cutChain_still (m : MicLane) (r : RefLane) (k : Nat) : (s.cutChain m r k).still = s.still := by
  simp [State.cutChain]

@[simp] theorem State.allocateChain_still (m : MicLane) (r : RefLane) (k : Nat) :
    (s.allocateChain m r k).still = s.still := by simp [State.allocateChain]

@[simp] theorem State.append_still (m : MicLane) (r : RefLane) : (s.append m r).still = s.still := by
  simp [State.append]

@[simp] theorem State.prepend_still (m : MicLane) (r : RefLane) : (s.prepend m r).still = s.still := by
  simp [State.prepend]

@[simp] theorem State.dropLast_still (m : MicLane) (r : RefLane) : (s.dropLast m r).still = s.still := by
  simp [State.dropLast]

@[simp] theorem State.dropFirst_still (m : MicLane) (r : RefLane) : (s.dropFirst m r).still = s.still := by
  simp [State.dropFirst]

@[simp] theorem State.zeroInPlace_still (m : MicLane) : (s.zeroInPlace m).still = s.still := by
  simp [State.zeroInPlace]

@[simp] theorem State.dropRequests_still (m : MicLane) : (s.dropRequests m).still = s.still := (rfl)

@[simp] theorem State.tailReport_still (m : MicLane) (r : RefLane) (a b c : Nat) :
    (s.tailReport m r a b c).still = s.still := (rfl)

@[simp] theorem State.poolReport_still : s.poolReport.still = s.still := (rfl)

@[simp] theorem State.enforceLimit_still (m : MicLane) (r : RefLane) : (s.enforceLimit m r).still = s.still := by
  unfold State.enforceLimit; split <;> simp

@[simp] theorem State.enforceLimits_still : s.enforceLimits.still = s.still := by simp [State.enforceLimits]

@[simp] theorem State.takeLimits_still (m : MicLane) (r : RefLane) : (s.takeLimits m r).still = s.still := by
  unfold State.takeLimits; split <;> simp

@[simp] theorem State.resetEvaluation_still (m : MicLane) : (s.resetEvaluation m).still = s.still := by
  simp [State.resetEvaluation]

@[simp] theorem State.settleReport_still (m : MicLane) (c : Nat) : (s.settleReport m c).still = s.still := (rfl)

@[simp] theorem State.setSettled_still (m : MicLane) (b : Bool) (c : Nat) :
    (s.setSettled m b c).still = s.still := by unfold State.setSettled; split <;> simp

@[simp] theorem State.deriveModes_still : s.deriveModes.still = s.still := by simp [State.deriveModes]

@[simp] theorem State.updateOutputs_still (f : MicLane → Bool) : (s.updateOutputs f).still = s.still := (rfl)

@[simp] theorem State.settleParked_still : s.settleParked.still = s.still := by
  unfold State.settleParked; split <;> simp

@[simp] theorem State.stage_still (o : CommitOrigin) (a b : Nat) : (s.stage o a b).still = s.still := (rfl)

@[simp] theorem State.applyStaged_still (c : Nat) : (s.applyStaged c).still = s.still := by
  unfold State.applyStaged; split <;> rfl

/-! ## Checkpoint Rings -/

@[simp] theorem State.recordInfo_still (i : Option RecordInfo) : (s.recordInfo i).2.still = s.still := by
  unfold State.recordInfo; split <;> simp

@[simp] theorem State.slotInfo_still (m : MicLane) (k : Option SlotIndex) : (s.slotInfo m k).2.still = s.still := by
  unfold State.slotInfo; split <;> simp

@[simp] theorem State.ckptReport_still (m : MicLane) (k : Option SlotIndex) (a b : Nat) (i : Option RecordInfo) :
    (s.ckptReport m k a b i).still = s.still := by simp [State.ckptReport]

@[simp] theorem State.emptySlot_still (m : MicLane) (k : SlotIndex) : (s.emptySlot m k).still = s.still := by
  simp [State.emptySlot]

@[simp] theorem State.discardSlot_still (m : MicLane) (k : SlotIndex) (e : Nat) :
    (s.discardSlot m k e).still = s.still := by unfold State.discardSlot; split <;> simp

theorem State.evict_still (m : MicLane) (k : SlotIndex) (n fuel : Nat) (s : State) :
    (s.evict m k n fuel).still = s.still := by
  induction fuel generalizing s with
  | zero => rfl
  | succ fuel ih => unfold State.evict; repeat' split
                    all_goals simp [ih]

theorem State.copyOut_still (m : MicLane) (k : SlotIndex) (s : State) : (s.copyOut m k).2.still = s.still := by
  unfold State.copyOut
  suffices h : ∀ (xs : List RefLane) (acc : List PathEntry × State), acc.2.still = s.still →
      (xs.foldl (fun (acc : List PathEntry × State) r =>
        let segs := acc.2.nextSegments (s.path m r).chain.length
        (acc.1 ++ [⟨r, (s.path m r).lead, segs⟩],
          ((acc.2.take (s.path m r).chain.length).own (Owner.checkpoint m k r) segs).copySegments
            ((s.path m r).chain.zip segs))) acc).2.still = s.still from h _ _ rfl
  intro xs
  induction xs with
  | nil => exact fun _ h => h
  | cons x xs ih => intro acc h; exact ih _ (by simp [h])

@[simp] theorem State.copyPush_still (m : MicLane) (k : SlotIndex) (c : Nat) :
    (s.copyPush m k c).still = s.still := by simp [State.copyPush, State.copyOut_still]

@[simp] theorem State.restartInterval_still (m : MicLane) (b : Bool) : (s.restartInterval m b).still = s.still := by
  unfold State.restartInterval; split <;> simp

@[simp] theorem State.push_still (m : MicLane) (b : Bool) : (s.push m b).2.still = s.still := by
  unfold State.push; repeat' split
  all_goals simp [State.evict_still]

@[simp] theorem State.notePush_still (m : MicLane) : (s.notePush m).still = s.still := by
  simp [State.notePush, FrameWork.shape_def]

@[simp] theorem State.forcedPush_still (m : MicLane) : (s.forcedPush m).2.still = s.still := by
  unfold State.forcedPush; dsimp only; split <;> simp

@[simp] theorem State.clearLeads_still (m : MicLane) : (s.clearLeads m).still = s.still := by
  simp [State.clearLeads]

@[simp] theorem State.copyIn_still (m : MicLane) (e : PathEntry) : (s.copyIn m e).still = s.still := by
  simp [State.copyIn]

@[simp] theorem State.moveIn_still (m : MicLane) (e : PathEntry) : (s.moveIn m e).still = s.still := by
  simp [State.moveIn]

@[simp] theorem State.raiseRestored_still (m : MicLane) : (s.raiseRestored m).still = s.still := by
  unfold State.raiseRestored; dsimp only; repeat' split
  all_goals simp

@[simp] theorem State.adoptRecord_still (m : MicLane) (rec : CkptRecord) : (s.adoptRecord m rec).still = s.still := by
  unfold State.adoptRecord; dsimp only; split <;> simp

@[simp] theorem State.zeroFilter_still (m : MicLane) : (s.zeroFilter m).still = s.still := by
  simp [State.zeroFilter, FrameWork.shape_def]

@[simp] theorem State.afterRestore_still (m : MicLane) : (s.afterRestore m).still = s.still := by
  simp [State.afterRestore, FrameWork.shape_def]

@[simp] theorem State.restoreCopy_still (m : MicLane) (rec : CkptRecord) : (s.restoreCopy m rec).still = s.still := by
  simp [State.restoreCopy]

@[simp] theorem State.restoreMove_still (m : MicLane) (k : SlotIndex) (rec : CkptRecord) :
    (s.restoreMove m k rec).still = s.still := by simp [State.restoreMove]

@[simp] theorem State.restoreZero_still (m : MicLane) (k : SlotIndex) (rec : CkptRecord) :
    (s.restoreZero m k rec).still = s.still := by simp [State.restoreZero]

@[simp] theorem State.restore_still (m : MicLane) (k : SlotIndex) (rec : CkptRecord) :
    (s.restore m k rec).2.still = s.still := by unfold State.restore; split <;> simp

theorem State.recall_still (m : MicLane) (k : SlotIndex) (o : RestoreOutcome) (t : State)
    (h : s.recall m k = some (o, t)) : t.still = s.still := by
  unfold State.recall at h
  repeat' split at h
  all_goals simp_all
  rw [← h.2]; simp

@[simp] theorem State.takeRecall_still (m : MicLane) : (s.takeRecall m).still = s.still := by
  unfold State.takeRecall
  split
  · dsimp only
    split
    · next d hd => rw [State.recall_still _ m _ d.1 d.2 hd]; simp
    · simp
  · rfl

@[simp] theorem State.countRollback_still (m : MicLane) (k : SlotIndex) : (s.countRollback m k).still = s.still := (rfl)

@[simp] theorem State.rollbackReports_still (m : MicLane) (a b c d e : Nat) :
    (s.rollbackReports m a b c d e).still = s.still := by simp [State.rollbackReports]

@[simp] theorem State.rollback_still (m : MicLane) (e : Nat) : (s.rollback m e).still = s.still := by
  unfold State.rollback; dsimp only; split
  · split <;> simp [FrameWork.shape_def]
  · simp [FrameWork.shape_def]

@[simp] theorem State.doSlotCommand_still (m : MicLane) (k : SlotIndex) (c : SlotCommand) :
    (s.doSlotCommand m k c).still = s.still := by unfold State.doSlotCommand; split <;> simp

@[simp] theorem State.takeSlotCommand_still (m : MicLane) (k : SlotIndex) :
    (s.takeSlotCommand m k).still = s.still := by
  unfold State.takeSlotCommand; split
  · dsimp only; split <;> simp
  · rfl

@[simp] theorem State.reclaim_still : s.reclaim.still = s.still := by unfold State.reclaim; split <;> simp

@[simp] theorem State.imageReport_still (x : Session) (o : SessionEnd) (a b : Nat) :
    (s.imageReport x o a b).still = s.still := (rfl)

@[simp] theorem State.endSession_still (x : Session) (o : SessionEnd) (c : Nat) :
    (s.endSession x o c).still = s.still := by
  unfold State.endSession; split <;> simp [State.endExport, State.abandonImport]

@[simp] theorem State.abortSession_still (m : MicLane) (c : Nat) : (s.abortSession m c).still = s.still := by
  unfold State.abortSession; repeat' split
  all_goals simp

/-! ## One microphone -/

@[simp] theorem State.rescale_still (m : MicLane) (mode : RoundMode) (a b : Nat) :
    (s.rescale m mode a b).still = s.still := by simp [State.rescale]

@[simp] theorem State.noteRescale_still (m : MicLane) (n : Nat) : (s.noteRescale m n).still = s.still := by
  unfold State.noteRescale; dsimp only; repeat' split
  all_goals simp

@[simp] theorem State.applyTrim_still (m : MicLane) : (s.applyTrim m).still = s.still := by
  unfold State.applyTrim; split <;> simp

@[simp] theorem State.takeHostFlags_still (m : MicLane) : (s.takeHostFlags m).still = s.still := (rfl)

@[simp] theorem State.resetRing_still (m : MicLane) : (s.resetRing m).still = s.still := by
  unfold State.resetRing
  rw [State.modRing_still]
  apply State.forEach_still
  intro x t; split <;> simp

@[simp] theorem State.resetRequests_still (m : MicLane) : (s.resetRequests m).still = s.still := by
  simp [State.resetRequests]

@[simp] theorem State.resetChains_still (m : MicLane) : (s.resetChains m).still = s.still := by
  simp [State.resetChains]

@[simp] theorem State.resetSettle_still (m : MicLane) (b : Bool) : (s.resetSettle m b).still = s.still := by
  unfold State.resetSettle; split <;> simp

@[simp] theorem State.micReset_still (m : MicLane) : (s.micReset m).still = s.still := by
  simp [State.micReset, FrameWork.shape_def]

/-! ## Talk Detector -/

@[simp] theorem State.judgeTalk_still (m : MicLane) (p : Params) (c : Bool) :
    (s.judgeTalk m p c).still = s.still := by
  unfold State.judgeTalk; dsimp only; split <;> simp

@[simp] theorem State.measure_still (m : MicLane) (p : Params) : (s.measure m p).still = s.still := by
  simp [State.measure]

@[simp] theorem State.trackFloor_still (m : MicLane) : (s.trackFloor m).still = s.still := (rfl)

@[simp] theorem State.talkWork_still (m : MicLane) (w : FrameWork) : (s.talkWork m w).still = s.still := by
  unfold State.talkWork; dsimp only; repeat' split
  all_goals simp [FrameWork.shape_def]

/-! ## Tail Manager -/

@[simp] theorem State.enqueue_still (m : MicLane) (r : RefLane) (k : GrowKind) : (s.enqueue m r k).still = s.still := (rfl)

@[simp] theorem State.minFillPath_still (m : MicLane) (r : RefLane) : (s.minFillPath m r).still = s.still := by
  unfold State.minFillPath; split <;> simp

@[simp] theorem State.minFill_still : s.minFill.still = s.still := by simp [State.minFill]

@[simp] theorem State.wantGrowth_still (m : MicLane) (r : RefLane) (k : GrowKind) :
    (s.wantGrowth m r k).still = s.still := by unfold State.wantGrowth; split <;> simp

@[simp] theorem State.evaluatePath_still (m : MicLane) (r : RefLane) (p : Params) :
    (s.evaluatePath m r p).still = s.still := by
  unfold State.evaluatePath; dsimp only; repeat' split
  all_goals simp

@[simp] theorem State.clearEvaluation_still : s.clearEvaluation.still = s.still := by simp [State.clearEvaluation]

@[simp] theorem State.evaluate_still (w : FrameWork) (h : MicLane → Bool) : (s.evaluate w h).still = s.still := by
  unfold State.evaluate
  rw [State.rebalance_still, State.clearEvaluation_still]
  apply State.forEach_still
  intro x t; split <;> simp

@[simp] theorem State.popQueue_still : s.popQueue.still = s.still := (rfl)

@[simp] theorem State.grantHead_still (q : GrowRequest) : (s.grantHead q).still = s.still := by
  unfold State.grantHead; split <;> simp

@[simp] theorem State.removeHead_still (q : GrowRequest) (c : Nat) : (s.removeHead q c).still = s.still := (rfl)

/-- The state a round of granting leaves. -/
def Round.state : Round → State
  | .ended t => t
  | .removed t => t
  | .granted t => t

@[simp] theorem State.grantRound_still : s.grantRound.state.still = s.still := by
  unfold State.grantRound; repeat' split
  all_goals simp [Round.state]

theorem State.grantAll_still (fuel : Nat) (s : State) : (s.grantAll fuel).still = s.still := by
  induction fuel generalizing s with
  | zero => rfl
  | succ fuel ih =>
    have h := s.grantRound_still
    unfold State.grantAll
    split <;> simp_all [Round.state]

theorem State.grantOnce_still (fuel : Nat) (s t : State) (h : s.grantOnce fuel = some t) : t.still = s.still := by
  induction fuel generalizing s with
  | zero => simp [State.grantOnce] at h
  | succ fuel ih =>
    have hr := s.grantRound_still
    unfold State.grantOnce at h
    split at h
    · simp at h
    · next u hu => rw [ih _ h, ← hr, hu]; rfl
    · next u hu => rw [← hr, hu]; simp_all [Round.state]

@[simp] theorem State.timeoutHead_still (q : GrowRequest) : (s.timeoutHead q).still = s.still := by
  simp [State.timeoutHead]

@[simp] theorem State.waitHead_still : s.waitHead.still = s.still := by
  unfold State.waitHead; repeat' split
  all_goals simp

@[simp] theorem State.serveQueue_still : s.serveQueue.still = s.still := by
  simp [State.serveQueue, State.grantAll_still]

@[simp] theorem State.testPool_still (p : Params) : (s.testPool p).still = s.still := by
  unfold State.testPool; repeat' split
  all_goals simp

/-! ## Line Controller -/

@[simp] theorem State.sampleLines_still (pins : BitVec 8) : (s.sampleLines pins).still = s.still := by
  simp [State.sampleLines]

@[simp] theorem State.formLines_still : s.formLines.still = s.still := by
  simp [State.formLines, FrameWork.shape_def]

@[simp] theorem State.countSpans_still : s.countSpans.still = s.still := (rfl)

@[simp] theorem State.lineReport_still (k : InLineIndex) (ev : LineEvent) (o : Nat) (a b : BitVec 16) :
    (s.lineReport k ev o a b).still = s.still := (rfl)

@[simp] theorem State.actHoldSpan_still (e : InEntry) : (s.actHoldSpan e).still = s.still := by
  simp [State.actHoldSpan]

@[simp] theorem State.actMuteToggle_still (e : InEntry) : (s.actMuteToggle e).still = s.still := by
  simp [State.actMuteToggle]

@[simp] theorem State.actRecall_still (e : InEntry) : (s.actRecall e).2.still = s.still := by
  unfold State.actRecall
  suffices h : ∀ (xs : List MicLane) (acc : List MicLane × State), acc.2.still = s.still →
      (xs.foldl (fun (acc : List MicLane × State) m =>
        match acc.2.recall m (Fin.ofNat 4 e.argument) with
        | some done => (acc.1 ++ [m], done.2)
        | none => acc) acc).2.still = s.still from h _ _ rfl
  intro xs
  induction xs with
  | nil => exact fun _ h => h
  | cons x xs ih =>
    intro acc h
    refine ih _ ?_
    dsimp only
    split
    · next d hd => rw [State.recall_still _ _ _ d.1 d.2 hd, h]
    · exact h

@[simp] theorem State.actPush_still (e : InEntry) : (s.actPush e).still = s.still := by
  unfold State.actPush
  apply State.forEach_still
  intro x t; repeat' split
  all_goals simp

@[simp] theorem State.actCommit_still (e : InEntry) : (s.actCommit e).still = s.still := by
  simp [State.actCommit, FrameWork.shape_def]

@[simp] theorem State.actLine_still (k : InLineIndex) (ev : LineEvent) : (s.actLine k ev).still = s.still := by
  unfold State.actLine; dsimp only; repeat' split
  all_goals simp

@[simp] theorem State.handLevels_still (w : FrameWork) : (s.handLevels w).still = s.still := by
  simp [State.handLevels]

/-! ## Frame-end work -/

@[simp] theorem State.reportSlips_still : s.reportSlips.still = s.still := by
  unfold State.reportSlips; split <;> simp

@[simp] theorem State.referenceReport_still (e : Nat) : (s.referenceReport e).still = s.still := (rfl)

@[simp] theorem State.losePort_still : s.losePort.still = s.still := by simp [State.losePort]

@[simp] theorem State.judgeLoss_still : s.judgeLoss.still = s.still := by
  unfold State.judgeLoss; dsimp only; split <;> simp [FrameWork.shape_def]

@[simp] theorem State.convertMark_still (m : MicLane) (k : FaultKind) (x : Mark) (f : SatFlags → SatFlags) :
    (s.convertMark m k x f).still = s.still := by unfold State.convertMark; split <;> simp

@[simp] theorem State.convertMarks_still (m : MicLane) : (s.convertMarks m).still = s.still := by
  simp [State.convertMarks]

@[simp] theorem State.takeRestored_still (m : MicLane) (w : FrameWork) : (s.takeRestored m w).still = s.still := by
  unfold State.takeRestored; split <;> simp

@[simp] theorem State.notePushOutcome_still (m : MicLane) (done : PushOutcome × State) :
    (State.notePushOutcome m done).still = done.2.still := by
  unfold State.notePushOutcome; split <;> simp [FrameWork.shape_def]

@[simp] theorem State.autoPush_still (m : MicLane) (w : FrameWork) : (s.autoPush m w).still = s.still := by
  unfold State.autoPush; split <;> simp

@[simp] theorem State.takePush_still (m : MicLane) (w : FrameWork) : (s.takePush m w).still = s.still := by
  unfold State.takePush; repeat' split
  all_goals simp

@[simp] theorem State.takeReset_still (m : MicLane) (w : FrameWork) : (s.takeReset m w).still = s.still := by
  unfold State.takeReset; split <;> simp

@[simp] theorem State.keepRecall_still (m : MicLane) (w : FrameWork) (p : Option SlotIndex) :
    (s.keepRecall m w p).still = s.still := by
  unfold State.keepRecall; repeat' split
  all_goals simp

@[simp] theorem State.takeInEntry_still (k : InLineIndex) : (s.takeInEntry k).still = s.still := by
  unfold State.takeInEntry; split <;> simp [FrameWork.shape_def]

@[simp] theorem State.takeRollback_still (m : MicLane) (w : FrameWork) : (s.takeRollback m w).still = s.still := by
  unfold State.takeRollback; repeat' split
  all_goals simp

@[simp] theorem State.clearMic_still (k : BitVec 16) (m : MicLane) : (s.clearMic k m).still = s.still := (rfl)

@[simp] theorem State.takeClear_still (c : PendingClear) : (s.takeClear c).still = s.still := by
  unfold State.takeClear
  rw [State.forEach_still]
  · simp
  · intro x t; split <;> simp

@[simp] theorem State.takePendingClear_still : s.takePendingClear.still = s.still := by
  unfold State.takePendingClear; split <;> simp

@[simp] theorem State.countCommit_still (w : FrameWork) : (s.countCommit w).still = s.still := by
  unfold State.countCommit; repeat' split
  all_goals simp

@[simp] theorem State.countIdle_still : s.countIdle.still = s.still := by
  unfold State.countIdle; repeat' split
  all_goals simp

@[simp] theorem State.takeLineAction_still (k : InLineIndex) (w : FrameWork) :
    (s.takeLineAction k w).still = s.still := by unfold State.takeLineAction; split <;> simp

/-- No piece of frame-end work changes the still part of the state. -/
@[simp] theorem State.runTask_still (t : Task) (w : FrameWork) (s : State) : (State.runTask t w s).still = s.still := by
  cases t <;> simp [State.runTask]

@[simp] theorem State.withOutlook_still (o : Outlook) : (s.withOutlook o).still = s.still := by
  simp [State.withOutlook, FrameWork.shape_def]

/-- Selected work is taken under some outlook, or with automatic pushes and evaluation last. -/
theorem State.takeSelected_cases (choose : Nat → Nat) (select : Task → Bool) (s : State) :
    (∃ o, s.takeSelected choose select = s.takeUnder choose select o) ∨
      s.takeSelected choose select = s.takeLast choose select := by
  unfold State.takeSelected
  dsimp only
  split
  · exact .inl ⟨_, rfl⟩
  · split
    · exact .inl ⟨_, rfl⟩
    · exact .inr rfl

/-- What a choice picks is among the work still to be taken. -/
theorem FrameWork.pick_mem {w : FrameWork} {choice : Nat} {select : Task → Bool} {t : Task}
    (h : w.pick choice select = some t) : t ∈ w.todo := by
  have := List.mem_of_find?_eq_some h
  exact List.mem_rotate.mp this

/-! ## Reading the still part -/

theorem State.still_engine {s t : State} (h : t.still = s.still) : t.engine = s.engine := congrArg Still.engine h
theorem State.still_position {s t : State} (h : t.still = s.still) : t.position = s.position :=
  congrArg Still.position h
theorem State.still_frameCounter {s t : State} (h : t.still = s.still) : t.frameCounter = s.frameCounter :=
  congrArg Still.frameCounter h
theorem State.still_layout {s t : State} (h : t.still = s.still) : t.layout = s.layout := congrArg Still.layout h
theorem State.still_pending {s t : State} (h : t.still = s.still) : t.pending = s.pending :=
  congrArg Still.pending h
theorem State.still_phase {s t : State} (h : t.still = s.still) : t.phase.shape = s.phase.shape :=
  congrArg Still.phase h

end Sys2Proof.Machine
end

