-- ==== Sys2Proof/Tests/Slice0.lean ====
section
/-! SUPPORT. Tests of the model against the manual's own tables, the smoke tests of WellFormed, and for each statement
with hypotheses a witness: concrete states and operands that meet them. -/

open Sys2Proof Sys2Proof.Machine

namespace Sys2Proof.Tests

-- Each kernel evaluation below waits for those before it: taken one after another, they hold one thread in all.
set_option Elab.async false

/-! ## WellFormed refuses ill-formed commands -/

/-- A known KIND is no UNKNOWN_KIND event. -/
theorem test_wellFormed_unknown_known : (Instr.unknownKind 0x01#8 0#8 []).wellFormed = false := by decide

/-- 1025 payload bytes are too many. -/
theorem test_wellFormed_unknown_long :
    (Instr.unknownKind 0xFF#8 0#8 (List.replicate 1025 0#8)).wellFormed = false := by decide +kernel

/-- A WRITE or a READ transaction is not ignored. -/
theorem test_wellFormed_ignored :
    (Instr.ignoredTransaction [0x3C#8]).wellFormed = false ∧ (Instr.ignoredTransaction [0xC3#8]).wellFormed = false := by
  decide

/-- An image header has 9 to 21 bytes. -/
theorem test_wellFormed_import :
    (Instr.imageImport 0#8 0#8 0#8 (List.replicate 8 0#8)).wellFormed = false ∧
      (Instr.imageImport 0#8 0#8 0#8 (List.replicate 22 0#8)).wellFormed = false := by decide +kernel

/-- A chunk has 192 bytes for each of 1 to 4 segments. -/
theorem test_wellFormed_write : (Instr.imageWrite 0#8 0#16 (List.replicate 191 0#8)).wellFormed = false := by
  decide +kernel

/-! ## The manual's worked values -/

/-- R171: the CRC of 0x31 to 0x39 is 0x29B1. -/
theorem test_crc_check_value :
    crc16 [0x31#8, 0x32#8, 0x33#8, 0x34#8, 0x35#8, 0x36#8, 0x37#8, 0x38#8, 0x39#8] = 0x29B1#16 := by
  decide +kernel

/-- Table 2-1, all eight columns in each mode. -/
theorem test_rounding_table :
    [(5, 2), (7, 2), (-5, 2), (-7, 2), (11, 4), (-9, 4), (1, 2), (-1, 2)].map
        (fun q : Int × Nat => roundQuotient .nearestEven q.1 q.2) = [2, 4, -2, -4, 3, -2, 0, 0] ∧
      [(5, 2), (7, 2), (-5, 2), (-7, 2), (11, 4), (-9, 4), (1, 2), (-1, 2)].map
        (fun q : Int × Nat => roundQuotient .floor q.1 q.2) = [2, 3, -3, -4, 2, -3, 0, -1] ∧
      [(5, 2), (7, 2), (-5, 2), (-7, 2), (11, 4), (-9, 4), (1, 2), (-1, 2)].map
        (fun q : Int × Nat => roundQuotient .towardZero q.1 q.2) = [2, 3, -2, -3, 2, -2, 0, 0] := by decide

/-- Section 1.8: a raw sample of 12,000 at step 10, and the clamps at step 15. -/
theorem test_trim_of_a_sample :
    trimmed .nearestEven 10 12000 = 13464 ∧ trimmed .floor 10 12000 = 13464 ∧
      trimmed .nearestEven 15 32767 = 32767 ∧ trimmed .nearestEven 15 (-32768) = -32768 := by decide

/-- Table 1-3: rescale 8 to 9. -/
theorem test_rescale_table :
    rescaled .nearestEven 8 9 (-1000000) = -1059265 ∧ rescaled .floor 8 9 (-1000000) = -1059266 ∧
      rescaled .towardZero 8 9 (-1000000) = -1059265 ∧ rescaled .nearestEven 8 9 8000000 = 8388607 := by decide

/-- Table 2-2 and section 2.11.3: gains 127, 402 and 265. -/
theorem test_gains :
    gainOf 128 160 1048576 2048 = 127 ∧ gainOf 128 160 656389 1024 = 402 ∧ gainOf 128 160 1000000 1024 = 265 := by
  decide

/-- Table 2-3: the update of one coefficient. -/
theorem test_update_of_a_coefficient :
    updateStep .nearestEven 127 1000 2000 = 3876 ∧ updateStep .floor 127 1000 2000 = 3875 ∧
      updateStep .towardZero 127 (-1000) 2000 = -3875 ∧ sat24 (8388000 + 3876) = 8388607 := by decide

/-- Table 2-4: an estimate exactly halfway. -/
theorem test_estimate :
    estimateRaw .nearestEven 8384413696 = 1000 ∧ estimateRaw .floor 8384413696 = 999 ∧
      estimateRaw .towardZero 8384413696 = 999 ∧ errorOf (-32768) 1000 = -32768 := by decide

/-- Table 2-5: the smoothed power after frames 0, 1 and 7. -/
theorem test_smoothing :
    smooth 0 1000000 = 125000 ∧ smooth 125000 1000000 = 234375 ∧ smooth 607302 1000000 = 656389 := by decide

/-- Table 2-6: the squares of the shifted coefficients. -/
theorem test_energy_terms :
    square (1048576 / 256) = 16777216 ∧ square (-300 / 256) = 4 ∧ square (255 / 256) = 0 := by decide

/-- Section 3.5.1: the ERLE index 13, then 6. -/
theorem test_erle_index :
    erleIndex 1000000 10000 = 13 ∧ erleIndex 1000000 121250 = 6 ∧ smooth 10000 900000 = 121250 := by decide +kernel

/-- Table 3-4: the settled flag at frames 501, 503 and 507, and the divergence event at 509. -/
theorem test_settling :
    settledAfter false 12 12 = true ∧ settledAfter true 8 12 = true ∧ settledAfter true 7 12 = false ∧
      divergenceAfter 2 1 4 6 = (5, false) ∧ divergenceAfter 2 1 5 6 = (0, true) := by decide

/-- Table 8-2: one PROCESSED sample. -/
theorem test_processed_sample :
    comfortNoise .nearestEven 0x3A7C#16 500 = 396 ∧ comfortNoise .floor 0x3A7C#16 500 = 395 ∧
      processedSample .nearestEven true 400 396 4125 = 396 ∧ processedSample .floor true 400 395 4125 = 395 ∧
        processedSample .nearestEven false 400 396 4125 = 50 ∧ comfortNoise .nearestEven 0xB34F#16 500 = -519 := by
  decide

/-- Table 8-3: generator states. -/
theorem test_generator_steps :
    generatorStep 0xB400#16 0x3A7C#16 = 0x1D3E#16 ∧ generatorStep 0xB400#16 0x0E9F#16 = 0xB34F#16 ∧
      generatorStep 0xB400#16 0xB34F#16 = 0xEDA7#16 := by decide

/-- Table 8-4: the noise floor and its root. -/
theorem test_noise_floor :
    floorAfter 1073741824 40000 = 40000 ∧ floorAfter 40000 60000 = 40313 ∧ floorAfter 30000 30100 = 30100 ∧
      floorSqrt 40313 = 200 ∧ floorSqrt 30100 = 173 ∧ floorSqrt 1073741824 = 32768 := by decide

/-- Table 4-1: chains and segments after power-on. -/
theorem test_chains_after_power_on :
    (State.reset.path 5 2).chain.map Fin.val = List.range' 352 16 ∧
      (State.reset.path 15 3).chain.map Fin.val = List.range' 1008 16 ∧
        (State.reset.segment 352).owner = .active 5 2 0 ∧ (State.reset.segment 1024).owner = .free := by
  decide +kernel

/-! ## Single steps -/

/-- The state a command leaves. -/
def after (i : Instr) (s : State) : State :=
  match exec i s with
  | .next t => t
  | .fault _ => s
  | .refused _ => s

/-- A reply in its slot, with the request that asked for it. -/
def answered (f : Frame) : State :=
  State.reset.modLink fun l => { l with request := some ⟨0x30#8, 5#8, [0#8]⟩, reply := some f }

/-- The reset state with slot 0 of microphone 0 as given. -/
def withSlot (x : Slot) : State := State.reset.modSlot 0 0 fun _ => x

/-- A record of one segment. -/
def oneRecord : CkptRecord := ⟨1#32, 0#32, 8, 0, false, .clear, 0, [⟨0, 0, [3071]⟩]⟩

/-- A session of a kind on microphone 0 with one segment, at a cursor and an idle count. -/
def sessionOf (kind : SessionKind) (cursor idle : Nat) : Session :=
  ⟨kind, 0, 0, [⟨0, 0, [3071]⟩], cursor, idle, 8, 0, false, .clear⟩

/-- RUNNING, with samples of frame 0 being taken. -/
def running : State := { State.reset with engine := .running }

/-- RUNNING, with a frame end due. -/
def due : State := { running with phase := .due }

/-- Every chain empty but that of path (0, 0), which holds segment 5 with its gate open; two segments are free. -/
def oneChain : State :=
  { State.reset with
    paths := tabulate 16 fun m => tabulate 4 fun r =>
      { Path.powerOn 0 with chain := if m = 0 ∧ r = 0 then [5] else [], gate := true }
    freeList := [10, 11] }

/-- Every path with a chain of 32 segments: the engine capacity is used up. -/
def fullEngine : State :=
  { State.reset with
    paths := tabulate 16 fun _ => tabulate 4 fun _ => { Path.powerOn 0 with chain := List.replicate 32 0 } }

/-- The slots of a capture period with one raw sample on lane 5. -/
def onLane5 (x : BitVec 16) : Vector (BitVec 32) 16 :=
  tabulate 16 fun m => if m = 5 then x.zeroExtend 32 <<< 16 else 0#32

/-- Section 11.7: a frame that finds the request slot full sets DROPPED. -/
theorem test_dropped_request :
    (after (.paramSet 6#8 0#8 1#32) (answered ⟨0xB0#8, 5#8, [0#8]⟩)).link.dropped = true := by decide +kernel

/-- Section 11.7: a READ cut short leaves the reply, a whole one takes it. -/
theorem test_reads :
    (after (.read 8) (answered ⟨0xB0#8, 5#8, [0#8]⟩)).link.reply = some ⟨0xB0#8, 5#8, [0#8]⟩ ∧
      (after (.read 9) (answered ⟨0xB0#8, 5#8, [0#8]⟩)).link.reply = none := by decide +kernel

/-- Section 1.8: PARKED, a raw sample of 12,000 at step 10 leaves as 13,464. -/
theorem test_parked_sample :
    (after (.captureSample (onLane5 12000#16) 0#8) (State.reset.modMic 5 fun x => { x with trim := 10 })).outNext.get 5 =
      13464 := by decide +kernel

/-- R155: STEP 300 is clamped to 255 with the status CLAMPED. -/
theorem test_param_clamped :
    (after (.paramSet 1#8 0#8 300#32) State.reset).link.reply =
      some ⟨0x90#8, 1#8, [1#8, 0#8, 255#8, 0#8, 0#8, 0#8]⟩ := by decide +kernel

/-- R15: UP at step 15 has no effect, and the status is CLAMPED. -/
theorem test_trim_limit :
    ((after (.trim 0#8 (tabulate 16 fun m => if m = 2 then 1#8 else 0#8))
      (running.modMic 2 fun x => { x with trimPending := 15 })).link.reply.map fun f => f.payload.take 4) =
        some [1#8, 8#8, 8#8, 15#8] := by decide +kernel

/-- R166, R168: LINE.SET FIXED_HIGH in PARKED drives its own line at once, and takes no other line's pending entry. -/
theorem test_line_set_parked :
    let s := State.reset.modInLine 3 fun x => { x with pendingEntry := some x.entry }
    let t := after (.lineSet 0#8 1#8 0#8 0#8 9#8 0#8 0#16) s
    (t.outLines.get 0).value = true ∧ (t.outLines.get 1).value = false ∧ (t.inLines.get 3).pendingEntry.isSome = true := by
  decide +kernel

/-- R56, R57: MIC.FREEZE in PARKED gives FROZEN and MIC.THAW gives LIVE again; a halted microphone stays HALTED. -/
theorem test_freeze_and_thaw_parked :
    let s := State.reset.modTalk 6 fun x => { x with halt := true }
    let t := after (.micFreeze 0#8 0x0060#16) s
    let u := after (.micThaw 0#8 0x0060#16) { t with link := s.link }
    (t.mic 5).talk.mode = .frozen ∧ (u.mic 5).talk.mode = .live ∧ (t.mic 6).talk.mode = .halted ∧
      (u.mic 6).talk.mode = .halted := by decide +kernel

/-- R78 to R81: after reset 2048 segments are free, 1024 ACTIVE and none CHECKPOINT. -/
theorem test_pool_counts :
    State.reset.freeCount = 2048 ∧ State.reset.activeCount = 1024 ∧ State.reset.checkpointCount = 0 := by
  decide +kernel

/-- Section 9.3.1: LAYOUT.SET 12, 3 from reset leaves 2496 free and 576 ACTIVE. -/
theorem test_layout_set :
    (after (.layoutSet 0#8 12#8 3#8 (BitVec.allOnes 64) 20#8) State.reset).link.reply =
      some ⟨0x8A#8, 0#8, [0#8, 0xC0#8, 0x09#8, 0x40#8, 0x02#8]⟩ := by decide +kernel

/-- R9 and R44: a loss decided at this frame end makes the far test fail, though an arrival has ended the loss since. -/
theorem test_loss_decision_stands :
    let loud : State := { due with refs := tabulate 4 fun _ => { RefRecord.zero with level := 10000000 } }
    let s (loss : Option Bool) : State := { loud with phase := .taking { loud.openingWork [] with loss := loss } }
    (s (some true)).port.lost = false ∧ (s (some true)).farTest due.active = false ∧
      (s none).farTest due.active = true := by decide +kernel

/-- R82: a capture sample raises the fill, and QUERY.PATH's fill count waits for the frame end. -/
theorem test_shown_fill_waits :
    let t := after (.captureSample (tabulate 16 fun _ => 0#32) 0#8) State.reset
    (t.ref 0).fill = 1 ∧ t.fillsShown.get 0 = 0 := by decide +kernel

/-- R53: a MIC.RESET accepted after the TALK report of a frame end stays pending at that frame end. -/
theorem test_reset_after_talk_report :
    let w (told : Bool) : FrameWork :=
      { due.openingWork [] with handover := tabulate 16 fun _ => some ⟨0, false, false, false, told⟩ }
    let s (told : Bool) : State := { due.modMic 0 fun x => { x with resetPending := true } with phase := .taking (w told) }
    (((s true).takeReset 0 (w true)).mic 0).resetPending = true ∧
      (((s false).takeReset 0 (w false)).mic 0).resetPending = false := by decide +kernel

/-- R108: a fault's halt at this frame end bars an automatic push, but for the RING_FULL of the push itself. -/
theorem test_outcome_of_a_halt :
    let s : State := { due with phase := .taking (due.openingWork []) }
    let refused := s.modWork fun w => { w with pushRefused := tablePut w.pushRefused 0 true }
    ((s.haltMic .ringFull 0).outcome).live.get 0 = false ∧ ((s.haltMic .ringFull 0).outcome).halted.get 0 = true ∧
      ((refused.haltMic .ringFull 0).outcome).live.get 0 = true ∧
      ((refused.haltMic .divergence 0).outcome).live.get 0 = false := by decide +kernel

/-- R108 and R113: an automatic push waits for a PUSH line of its microphone alone, and for no RECALL line. -/
theorem test_auto_push_and_line_events :
    let lined (x : LineAction) : FrameWork :=
      { due.openingWork [] with events := tabulate 8 fun k => if k = 2 then some ⟨⟨false, .both, x, 0, 1#16⟩, true, false⟩ else none }
    (Task.autoPush 0).waitsFor (lined .push) (.lineAction 2) = true ∧
      (Task.autoPush 1).waitsFor (lined .push) (.lineAction 2) = false ∧
      (Task.autoPush 0).waitsFor (lined .recall) (.lineAction 2) = false := by decide +kernel

/-- R173: a reply before a queued report is sent with READY and MORE, RESTART's with READY alone, for its removal empties the
queue (R160). -/
theorem test_more_of_a_reply :
    let reported (f : Frame) : Link := { (answered f).link with reports := [reportFrame .settle []] }
    (reported ⟨0xB0#8, 5#8, [0#8]⟩).outboundBytes.getD 3 0#8 = 3#8 ∧
      (reported ⟨0x82#8, 5#8, [0#8]⟩).outboundBytes.getD 3 0#8 = 1#8 := by decide +kernel

/-! ## Witnesses of the statements' hypotheses -/

/-- StepRunsFrontCommand: a command waits. -/
theorem witness_front_command :
    ({ State.reset with pending := [.frameEnd] } : State).pending = .frameEnd :: [] := rfl

/-- ResetsBringThePowerOnState and RestartTakesEffectWithItsReply: RESTART's reply waits; its frame has 9 bytes. -/
theorem witness_restart :
    State.reset.accepting ∧ (answered ⟨0x82#8, 0#8, [0#8]⟩).link.reply = some ⟨0x82#8, 0#8, [0#8]⟩ ∧
      8 + [0#8].length ≤ 9 ∧ 8 < 8 + [0#8].length := ⟨rfl, by decide +kernel⟩

/-- RequestsReadBackAsSent: the shortest and longest image headers, both QUERY.POOLs and a TRIM; their words are read
back. -/
theorem witness_encodings :
    ∀ i ∈ [Instr.ident 5#8, .imageImport 0#8 0#8 0#8 (List.replicate 9 0#8),
        .imageImport 0#8 0#8 0#8 (List.replicate 21 0#8), .queryPool 0#8 none,
        .queryPool 0#8 (some 0xFFFF#16), .trim 0#8 (tabulate 16 fun _ => 3#8)],
      i.wellFormed = true ∧ (encodeRequest i).isSome = true ∧ (encodeRequest i).map classify = some (.request i) := by
  decide +kernel

/-- RequestsFillBothSlots, DiscardedFramesRaiseTheirFault and UnknownAndIgnoredTransactions: an empty request slot, and
a full one. -/
theorem witness_slots :
    State.reset.accepting ∧ requestFrame? (.ident 0#8) = some ⟨0x01#8, 0#8, []⟩ ∧ (Instr.ident 0#8).wellFormed = true ∧
      (answered ⟨0xB0#8, 5#8, [0#8]⟩).link.request = some ⟨0x30#8, 5#8, [0#8]⟩ := ⟨rfl, by decide +kernel⟩

/-- DiscardedFramesRaiseTheirFault: a header of 8 bytes, no bytes at all, and a CRC with its lowest bit wrong. -/
theorem witness_discarded :
    State.reset.accepting ∧ (State.reset.faultEntry .linkFormat).masked = false ∧ State.reset.link.first = none ∧
      lengthAllowed 0x2A#8 10 = false ∧ classify [] = .badFormat 0#8 0#8 0#8 0#8 ∧
      (State.reset.faultEntry .linkCrc).masked = false ∧
      classify [0x7E#8, 0x01#8, 0#8, 0#8, 0#8, 0#8, 0#8, 0#8] =
        .badCrc 0#16 (crc16 [0x01#8, 0#8, 0#8, 0#8, 0#8]) := ⟨rfl, by decide +kernel⟩

/-- UnknownAndIgnoredTransactions: a report KIND with 1024 payload bytes, and a transaction with no complete byte. -/
theorem witness_unknown :
    State.reset.accepting ∧ knownKind 0x70#8 = false ∧ (List.replicate 1024 0#8).length ≤ 1024 ∧
      (Instr.ignoredTransaction []).wellFormed = true := ⟨rfl, by decide +kernel⟩

/-- ReadsSendAndRemoveOneFrame: IDLE has 8 bytes; a reply; and 32 reports with an unmasked flag set. -/
theorem witness_reads :
    State.reset.link.restarting = false ∧ State.reset.link.outboundBytes.length = 8 ∧
      (answered ⟨0xB0#8, 5#8, [0#8]⟩).link.restarting = false ∧
      (State.reset.link.flags ||| 4#16) &&& ~~~State.reset.link.masks ≠ 0#16 ∧
      (List.replicate 31 (reportFrame .settle [])).length < 32 := by decide +kernel

/-- ReportsReachTheQueue: a masked class, a full queue, and an unmasked class with room. -/
theorem witness_reports :
    Link.powerOn.masks.getLsbD ReportClass.talk.code = true ∧ Link.powerOn.masks.getLsbD ReportClass.settle.code = false ∧
      Link.powerOn.reports.length < 32 ∧ 32 ≤ (List.replicate 32 (reportFrame .settle [])).length := by decide

/-- AttnFollowsSlotAndQueue: the three resets happen. -/
theorem witness_attn :
    exec .powerOn State.reset = .next State.reset.powerOn ∧ exec .resetn State.reset = .next State.reset.powerOn ∧
      exec .restartCompletion (answered ⟨0x82#8, 0#8, [0#8]⟩) =
        .next (answered ⟨0x82#8, 0#8, [0#8]⟩).powerOn := ⟨rfl, rfl, rfl⟩

/-- FaultsAreCountedAndRecorded: a masked kind, an unmasked one with the record empty, a HALTING one; a mark raised, with
every other kind masked, and marks and a restored flag not set; a rescale that clamps RUNNING and PARKED, and one that does
not. -/
theorem witness_faults :
    let l : Link := { Link.powerOn with faults := tabulate 11 fun k => ⟨false, 0, 0#16, k != 1, .advisory⟩ }
    (State.reset.faultEntry .coefSat).masked = true ∧ (State.reset.faultEntry .divergence).masked = false ∧
      (State.reset.faultEntry .divergence).severity = .advisory ∧ State.reset.link.first = none ∧
      ((State.reset.modFault .ringFull fun e => { e with severity := .halting }).faultEntry .ringFull).severity = .halting ∧
      FaultKind.ringFull.code.val ≤ 5 ∧
      ((State.reset.modEngine 0 fun e => { e with estMark := ⟨true, 1, 0, 2⟩ }).mic 0).engine.estMark.raised = true ∧
      (State.reset.mic 0).engine.coefMark.raised = false ∧ (State.reset.mic 0).ring.restored.coef = false ∧
      ((State.reset.modRing 0 fun x => { x with restored := ⟨false, true, false⟩ }).mic 0).ring.restored.est = true ∧
      running.engine = .running ∧ State.reset.engine = .parked ∧ (1 : Nat) ≠ 0 ∧
      l.first = none ∧ (l.faults.get 1).masked = false ∧ ∀ k : Fin 11, k ≠ 1 → (l.faults.get k).masked = true := by
  decide +kernel

/-- NotifySetReplacesTheMasks: bit 10 set, bits 0 to 9 alone, and a flag the new masks leave unmasked. -/
theorem witness_notify :
    State.reset.accepting ∧ (0x0400#16).getLsbD 10 = true ∧ (∀ k < 16, 10 ≤ k → (0x03FF#16).getLsbD k = false) ∧
      State.reset.link.flags &&& ~~~(0#16) = 0#16 ∧
      (State.reset.modLink fun l => { l with flags := 1#16 }).link.flags &&& ~~~(0#16) ≠ 0#16 ∧
      State.reset.link.reports.length < 32 := ⟨rfl, by decide +kernel⟩

/-- FaultSetReplacesMaskAndSeverity: HALTING for kind 5 is accepted, for kind 6 refused, as are kind 11 and value 2. -/
theorem witness_fault_set :
    State.reset.accepting ∧ FaultKind.imageReject.code.val ≤ 5 ∧ (1#8 : Byte).toNat ≤ 1 ∧
      5 < (6#8 : Byte).toNat ∧ 10 < (11#8 : Byte).toNat ∧ 1 < (2#8 : Byte).toNat := ⟨rfl, by decide⟩

/-- FaultReadAndClear: kinds 0 to 10, kind bit 11, RUNNING with no clear pending and with one, PARKED, a microphone that a
clear leaves with no halting kind and one that it leaves with one. -/
theorem witness_fault_clear :
    State.reset.accepting ∧ running.accepting ∧ (∀ k < 16, 11 ≤ k → (0x07FF#16).getLsbD k = false) ∧
      (0x0800#16).getLsbD 11 = true ∧ running.engine = .running ∧ running.link.clear = none ∧
      State.reset.engine = .parked ∧ (0x0010#16) &&& ~~~((0x07FF#16) &&& 0x3F#16) = 0#16 ∧
      (running.modLink (Link.addClear (clearOf 1#16 1#16))).link.clear = some (clearOf 1#16 1#16) ∧
      (0x0018#16) &&& ~~~((0x0010#16) &&& 0x3F#16) ≠ 0#16 := ⟨rfl, rfl, by decide +kernel⟩

/-- ArrivalsJoinTheFifo: 511 sets leave room, 512 do not; the port may be lost, in PARKED with no frame end open. -/
theorem witness_arrivals :
    (List.replicate 511 ([0] : List Int)).length < 512 ∧ 512 ≤ (List.replicate 512 ([0] : List Int)).length ∧
      ({ State.reset with port := { State.reset.port with lost := true } } : State).port.lost = true ∧
      State.reset.port.lost = false ∧ State.reset.engine = .parked ∧ State.reset.phase = .sampling := by decide +kernel

/-- CaptureConsumesTheReference: samples being taken, PARKED and RUNNING; lost, empty and non-empty ports; a read at delay 8191
of a history. -/
theorem witness_capture :
    State.reset.phase = .sampling ∧ State.reset.port.lost = false ∧ State.reset.port.fifo = [] ∧
      ({ State.reset with port := { State.reset.port with fifo := [[1, 2, 3, 4]] } } : State).port.fifo =
        [1, 2, 3, 4] :: [] ∧ 8190 < 8191 ∧ State.reset.configuredRefs = allRefs ∧
      State.reset.engine = .parked ∧ running.phase = .sampling ∧ running.engine = .running ∧ running.configuredRefs = allRefs := by decide +kernel

/-- ParkedSamplesPassThrough: PARKED in a layout of 12 microphones, one muted and one not. -/
theorem witness_parked_sample :
    let s := ({ State.reset with layout := ⟨12, 4, BitVec.allOnes 64, 16⟩ }.modOut 3 fun o => { o with mute := true })
    s.phase = .sampling ∧ s.engine = .parked ∧ s.layout.mics ≤ 12 ∧ 11 < s.layout.mics ∧
      (s.mic 3).out.mute = true ∧ (s.mic 11).out.mute = false ∧ (s.mic 11).out.lineMute = false := by decide +kernel

/-- RunningSamplesCancelTheEcho: RUNNING with every gate closed, and each output source. -/
theorem witness_running_sample :
    running.phase = .sampling ∧ running.engine = .running ∧ (∀ m r, (running.path m r).gate = false) ∧
      (running.mic 0).out.source = .processed ∧ running.active.noiseFill = true ∧
      ((running.modOut 1 fun o => { o with source := .direct }).mic 1).out.source = .direct ∧
      ((running.modOut 2 fun o => { o with source := .residual }).mic 2).out.source = .residual := by decide +kernel

/-- The chains of `oneChain`: one segment at one place. -/
theorem oneChain_chains (m : MicLane) (r : RefLane) :
    (oneChain.path m r).chain = if m = 0 ∧ r = 0 then [5] else [] := by
  have h : ∀ (m : MicLane) (r : RefLane), (oneChain.path m r).chain = if m = 0 ∧ r = 0 then [5] else [] := by
    decide +kernel
  exact h m r

/-- The one place of `oneChain`'s chains. -/
theorem oneChain_place {m : MicLane} {r : RefLane} {p : Nat} {i : SegIndex}
    (h : (oneChain.path m r).chain[p]? = some i) : m = 0 ∧ r = 0 ∧ p = 0 := by
  rw [oneChain_chains] at h
  split at h
  · next at00 =>
    cases p with
    | zero => exact ⟨at00.1, at00.2, rfl⟩
    | succ p => simp at h
  · simp at h

/-- `oneChain`'s chains share no segment. -/
theorem oneChain_apart : oneChain.chainsApart := fun m r p m' r' p' _ h h' => by
  have a := oneChain_place h
  have b := oneChain_place h'
  exact ⟨a.1.trans b.1.symm, a.2.1.trans b.2.1.symm, a.2.2.trans b.2.2.symm⟩

/-- OpenGatesMoveCoefficients, RunningSamplesCancelTheEcho and TrimMovesPendingSteps: chains that share no segment, an open
gate with a segment, and a segment in no chain. -/
theorem witness_chains_apart :
    oneChain.chainsApart ∧ ({ oneChain with engine := .running } : State).chainsApart ∧
      (oneChain.path 0 0).chain[0]? = some 5 ∧ (oneChain.path 0 0).gate = true ∧ oneChain.phase = .sampling :=
  ⟨oneChain_apart, oneChain_apart, by decide +kernel⟩

/-- GeneratorsAndPositionsAdvance: states with lowest bit 1 and 0, and the positions 126 and 127. -/
theorem witness_generators :
    (running.mic 0).out.generator.getLsbD 0 = true ∧ (running.mic 1).out.generator.getLsbD 0 = false ∧
      ({ running with position := 127 } : State).position = 127 ∧
      ({ running with position := 126 } : State).position < 127 := by
  decide +kernel

/-- FrameEndDecidesTheNextFrame, FrameEndTakesAllItsWork and FrameEndDrivesTheOutputLines: a frame end is due, RUNNING,
with the request slot empty. -/
theorem witness_due :
    due.phase = .due ∧ due.engine = .running ∧ due.accepting ∧ exec .frameEnd due = .next due.frameEnd ∧
      running.phase = .sampling := ⟨rfl, rfl, rfl, rfl, rfl⟩

/-- A frame end of which all is taken but what a statement asks about, after a frame that adapted microphone 0. -/
def taking : State :=
  let s := due.modTalk 0 fun t => { t with talk := .far }
  { s with phase := .taking (s.openingWork []) }

/-- FrameEndDecidesTheNextFrame: a frame end begun, with the loss decision still to be taken, and taken. -/
theorem witness_begun :
    taking.phase ≠ .sampling ∧ taking.accepting ∧ taking.engine = .running ∧
      (∃ w, taking.phase = .taking w ∧ w.loss = none ∧ Task.loss ∉ w.todo) ∧
      ∃ w, (taking.modWork fun w => { w with loss := some true }).phase = .taking w ∧ Task.loss ∉ w.todo :=
  ⟨by simp [taking], rfl, rfl, ⟨_, rfl, rfl, by simp [State.openingWork]⟩, ⟨_, rfl, by simp [State.openingWork]⟩⟩

/-- FrameEndDecidesTheNextFrame: a configured and an unconfigured lane, an ACTIVE segment and a FREE one, an open and a closed
gate of enabled paths, and a path that is not enabled. -/
theorem witness_opening :
    let s : State := { due with layout := ⟨12, 3, BitVec.allOnes 64, 16⟩ }
    s.phase = .due ∧ s.layout.refs ≤ (3 : RefLane).val ∧ s.layout.mics ≤ (12 : MicLane).val ∧
      (s.segment 0).owner = .active 0 0 0 ∧ (∀ m r p, (s.segment 3071).owner ≠ .active m r p) ∧
      ((s.modPath 0 0 fun p => { p with gate := true }).path 0 0).gate = true ∧ (s.path 0 1).gate = false ∧
      s.enabled 0 0 = true ∧ s.enabled 0 3 = false := by
  intro s
  have free : (s.segment 3071).owner = .free := by decide +kernel
  refine ⟨rfl, by decide +kernel, by decide +kernel, by decide +kernel, ?_, by decide +kernel⟩
  simp [free]

/-- CaptureConsumesTheReference and SilenceLosesTheReference: tallies of 0 and above, a port lost, one that has been silent
for 2 frames and one for 3, while a frame end is open. -/
theorem witness_port_work :
    let s (p : RefPort) : State := { taking with port := p }
    let silent (n : Nat) : RefPort := { taking.port with silence := n, arrived := false }
    (∃ w, (s (silent 3)).phase = .taking w) ∧ taking.port.underrunTally = 0 ∧ taking.port.overrunTally = 0 ∧
      0 < (s { taking.port with overrunTally := 1 }).port.overrunTally ∧ (silent 3).lost = false ∧
      (silent 3).arrived = false ∧ 3 ≤ (silent 3).silence ∧ (silent 2).silence < 3 ∧
      (s { taking.port with lost := true }).port.lost = true := ⟨⟨_, rfl⟩, by decide +kernel⟩

/-- FaultReadAndClear: a fault clear pending and none, with a frame end open and between frames; a microphone the clear
names and one it does not; and nothing else pending there. -/
theorem witness_pending_clear :
    let c : PendingClear := ⟨0x0012#16, tabulate 16 fun m => if m = 0 then 0x0012#16 else 0#16⟩
    let clearing (s : State) : State := s.modLink fun l => { l with clear := some c }
    (∃ w, (clearing taking).phase = .taking w) ∧ (clearing taking).link.clear = some c ∧ taking.link.clear = none ∧
      (clearing running).accepting ∧ (clearing running).engine = .running ∧ (clearing running).phase = .sampling ∧
      (clearing running).link.clear = some c ∧ (c.mics.get 0).getLsbD 1 = true ∧ c.mics.get 1 = 0#16 ∧
      ∀ m, ((clearing running).mic m).resetPending = false ∧
        ((clearing running).mic m).trim = ((clearing running).mic m).trimPending ∧
        ((clearing running).mic m).ring.recallPending = none ∧ ((clearing running).mic m).ring.pushPending = false :=
  ⟨⟨_, rfl⟩, rfl, rfl, rfl, rfl, rfl, rfl, by decide +kernel⟩

/-- The pieces of a frame end that take pending work of requests: a trim step that differs and one that does not, in chains
that share no segment; limits pending; one chain above its `max_segs`; an entry of an output line pending. -/
theorem witness_pending_work :
    let open' (s : State) : State := { s with engine := .running, phase := .taking (s.openingWork []) }
    let step := (open' oneChain).modMic 0 fun x => { x with trimPending := 9 }
    let e : OutEntry := ⟨.farAny, true, 1#16⟩
    (∃ w, step.phase = .taking w) ∧ step.engine = .running ∧ step.chainsApart ∧
      (step.mic 0).trim ≠ (step.mic 0).trimPending ∧ (step.mic 1).trim = (step.mic 1).trimPending ∧
      (step.path 0 0).chain[0]? = some 5 ∧
      ((taking.modPath 0 0 fun p => { p with limits := some ⟨1, 80, true, some 64⟩ }).path 0 0).limits =
        some ⟨1, 80, true, some 64⟩ ∧ (taking.path 0 0).limits = none ∧
      ((taking.modPath 3 2 fun p => { p with maxSegs := 15 }).path 3 2).chain.length = 16 ∧
      (∀ m r, (taking.path m r).chain.length ≤ (taking.path m r).maxSegs) ∧
      ((taking.modOutLine 7 fun x => { x with pendingEntry := some e }).outLines.get 7).pendingEntry = some e ∧
      (taking.outLines.get 7).pendingEntry = none :=
  ⟨⟨_, rfl⟩, rfl, oneChain_apart, by decide +kernel⟩

/-- PushMakesARecord, the pending push of a frame end: a push made before and none, a halted microphone, an EMPTY slot after
the top and room, and chains apart from the free list. -/
theorem witness_forced_push :
    let s : State := { oneChain with engine := .running, phase := .taking (oneChain.openingWork []) }
    let pending := s.modRing 0 fun x => { x with pushPending := true }
    (∃ w, pending.phase = .taking w ∧ w.pushTaken.get 0 = false ∧ (tablePut w.pushTaken 0 true).get 0 = true) ∧
      (∀ r, ∀ i ∈ (pending.path 0 r).chain, i ∉ pending.freeList) ∧
      (pending.mic 0).ring.pushPending = true ∧ (s.mic 0).ring.pushPending = false ∧
      (pending.mic 0).talk.halt = false ∧ ((pending.modTalk 0 fun t => { t with halt := true }).mic 0).talk.halt = true ∧
      pending.slot 0 ((pending.mic 0).ring.top + 1) = Slot.blank ∧ pending.micActive 0 ≤ pending.freeCount ∧
      pending.freeList.Nodup := by
  intro s pending
  have free : (5 : SegIndex) ∉ oneChain.freeList := by decide +kernel
  refine ⟨⟨_, rfl, by decide +kernel⟩, fun r i h => ?_, by decide +kernel⟩
  change i ∈ (oneChain.path 0 r).chain at h
  change i ∉ oneChain.freeList
  rw [oneChain_chains] at h
  split at h <;> simp_all

/-- FrameEndDrivesTheOutputLines: ENGINE.PARK with an output line that shows ROLLBACK_PULSE; a rollback whose divergence
event is handed over, and one with none. -/
theorem witness_pulse :
    let e : OutEntry := ⟨.rollbackPulse, true, 1#16⟩
    let h : Handover := ⟨0, false, false, true, false⟩
    ((after (.enginePark 0#8) (running.modOutLine 3 fun x => { x with entry := e })).outLines.get 3).entry = e ∧
      (tablePut (taking.openingWork []).handover 0 (some h)).get 0 = some h ∧ h.event = true ∧
      (taking.openingWork []).handover.get 0 = none := by decide +kernel

/-- An entry of an event line for microphone 0 alone. -/
def entryOf (a : LineAction) (argument : Nat) : InEntry := ⟨false, .both, a, argument, 1#16⟩

/-- FrameEndDrivesTheOutputLines: a frame end in progress; an event of a line and none where its entry was just taken; an
entry pending; COMMIT with a set staged and with none; RECALL of an EMPTY slot and of one whose record fits; PUSH after a
push or a reset and with an EMPTY slot. -/
theorem witness_line_work :
    (∃ w, taking.phase = .taking w ∧ w.entryTaken.get 0 = false ∧ w.resetTaken.get 0 = false ∧
      w.pushTaken.get 0 = false) ∧
      (tablePut (taking.openingWork []).entryTaken 0 true).get 0 = true ∧
      ((taking.modInLine 0 fun x => { x with entry := entryOf .push 0, last := true }).inLines.get 0).lastFrame = false ∧
      ((taking.modInLine 0 fun x => { x with pendingEntry := some (entryOf .recall 3) }).inLines.get 0).pendingEntry =
        some (entryOf .recall 3) ∧
      taking.staged = none ∧ (taking.stage .paramCommit 0 0).staged ≠ none ∧
      (∀ m : MicLane, (entryOf .push 0).mask.getLsbD m.val = true ∧ m.val < taking.layout.mics ↔ m = 0) ∧
      (taking.slot 0 3).tag = .empty ∧ (taking.mic 0).talk.halt = false ∧
      taking.slot 0 ((taking.mic 0).ring.top + 1) = Slot.blank ∧ taking.micActive 0 ≤ taking.freeCount ∧
      (taking.modSlot 0 3 fun _ => ⟨.held, false, some oneRecord, none⟩).restoreFits 0 oneRecord = true ∧
      (taking.modSlot 0 3 fun _ => ⟨.held, false, some oneRecord, none⟩).copyFits 0 oneRecord = true := by
  refine ⟨⟨_, rfl, ?_⟩, ?_⟩ <;> decide +kernel

/-- FrameEndTakesAllItsWork: an automatic push of microphone 0 beside its CKPT.RECALL and beside a RECALL line; a PUSH line
of microphone 0 still to be taken. -/
theorem witness_auto_push_order :
    let lined (x : LineAction) (todo : List Task) : FrameWork :=
      { due.openingWork todo with events := tabulate 8 fun _ => some ⟨entryOf x 0, true, false⟩ }
    (due.openingWork [.autoPush 0, .recall 0]).todo = [.autoPush 0, .recall 0] ∧
      (lined .recall [.lineAction 0, .autoPush 0]).todo = [.lineAction 0, .autoPush 0] ∧
      (lined .recall [.lineAction 0, .autoPush 0]).events.get 0 = some ⟨entryOf .recall 0, true, false⟩ ∧
      (entryOf .recall 0).action = .recall ∧
      Task.lineAction 7 ∈ (lined .push [.autoPush 0, .lineAction 7]).todo ∧
      (lined .push [.autoPush 0, .lineAction 7]).events.get 7 = some ⟨entryOf .push 0, true, false⟩ ∧
      (entryOf .push 0).action = .push ∧ (entryOf .push 0).mask.getLsbD 0 = true := by decide +kernel

/-- TalkWorkJudgesTheFrame: a MIC.RESET pending and none, still to be taken and taken; a TALK report raised and none; a
settled flag before the frame end. -/
theorem witness_talk_reset :
    let s := taking.modMic 0 fun x => { x with resetPending := true }
    let w := taking.openingWork [.reset 0]
    let told (x : Bool) : FrameWork := { w with handover := tablePut w.handover 0 (some ⟨0, false, false, false, x⟩) }
    (∃ v, s.phase = .taking v) ∧ (s.mic 0).resetPending = true ∧ (taking.mic 0).resetPending = false ∧
      Task.reset 0 ∈ w.todo ∧ (tablePut w.resetTaken 0 true).get 0 = true ∧
      (told true).handover.get 0 = some ⟨0, false, false, false, true⟩ ∧
      (told false).handover.get 0 = some ⟨0, false, false, false, false⟩ ∧
      (tablePut w.settledBefore 0 true).get 0 = true := by
  refine ⟨⟨_, rfl⟩, ?_⟩
  decide +kernel

/-- TalkWorkJudgesTheFrame: a frame end in progress with no reset taken, after an adapting frame and after another. -/
theorem witness_talk :
    (∃ w, taking.phase = .taking w ∧ w.resetTaken.get 0 = false ∧ w.adapting.get 0 = true ∧
      w.restoreTaken.get 0 = false ∧ w.adapting.get 1 = false) ∧
      due.openFrame.phase = .taking (due.openingWork due.measureFrame.frameTasks) := by
  refine ⟨⟨_, rfl, ?_⟩, rfl⟩
  decide +kernel

/-- SilenceLosesTheReference: the silence count at 3 with no arrival. -/
theorem witness_silence :
    let s : State := { due with port := { due.port with silence := 3 } }
    s.phase = .due ∧ s.port.lost = false ∧ s.port.arrived = false ∧ 3 ≤ s.port.silence := by decide +kernel

/-- EvaluationResetsItsCounts: the rebalance count at 24 and REBAL_FRAMES at 25, with chains that share no segment; a path
that meets every condition of an evaluation, with nothing replaced. -/
theorem witness_evaluation :
    let s : State := { oneChain with engine := .running, phase := .due, rebalance := 24 }
    let u := (s.modPath 0 0 fun p => { p with openGates := 10 }).modSegment 5 fun x => { x with energy := 65536 }
    s.chainsApart ∧ s.phase = .due ∧ s.active.rebalFrames ≤ s.rebalance + 1 ∧
      u.eligible (u.openingWork []) (fun _ => false) 0 0 = true := ⟨oneChain_apart, by decide +kernel⟩

/-- Energies for the first, a middle and the last segment of path (0, 0). -/
def energies (first middle last lead : Nat) : State :=
  (((State.reset.modSegment 0 fun x => { x with energy := first }).modSegment 7 fun x =>
    { x with energy := middle }).modSegment 15 fun x => { x with energy := last }).setLead 0 0 lead

/-- PathTestsTakeTheFirstThatHolds: one state for each clause. -/
theorem witness_path_tests :
    ((energies 1048576 0 0 0).lastEnergy 0 0 * 2 ^ 10 < (energies 1048576 0 0 0).totalEnergy 0 0) ∧
    ((energies 0 0 1048576 0).firstEnergy 0 0 * 2 ^ 10 < (energies 0 0 1048576 0).totalEnergy 0 0 ∧
      ¬(energies 0 0 1048576 0).lastEnergy 0 0 * 2 ^ 10 < (energies 0 0 1048576 0).totalEnergy 0 0) ∧
    ((energies 1048576 0 1048576 0).totalEnergy 0 0 ≤ (energies 1048576 0 1048576 0).lastEnergy 0 0 * 2 ^ 6) ∧
    ((energies 1048576 0 4096 64).lastEnergy 0 0 * 2 ^ 6 < (energies 1048576 0 4096 64).totalEnergy 0 0 ∧
      (energies 1048576 0 4096 64).totalEnergy 0 0 ≤ (energies 1048576 0 4096 64).firstEnergy 0 0 * 2 ^ 6 ∧
      ¬(energies 1048576 0 4096 64).lastEnergy 0 0 * 2 ^ 10 < (energies 1048576 0 4096 64).totalEnergy 0 0) ∧
    ((energies 4096 1048576 4096 0).firstEnergy 0 0 * 2 ^ 6 < (energies 4096 1048576 4096 0).totalEnergy 0 0 ∧
      ¬(energies 4096 1048576 4096 0).firstEnergy 0 0 * 2 ^ 10 < (energies 4096 1048576 4096 0).totalEnergy 0 0) := by
  decide +kernel

/-- GrantsAndTimeoutsServeTheQueue: a tail request, a head request with lead delay 64, requests blocked by capacity at
wait counts 124 and 125, one blocked by the free list, one that reclaims the older of two records, an invalid one, and
the low-pool flag set. -/
theorem witness_queue :
    let s : State := { due with queue := [⟨0, 0, .tail, 0⟩] }
    let u : State := { fullEngine with engine := .running, phase := .due, queue := [⟨0, 0, .tail, 125⟩] }
    (s.path 0 0).chain.length < (s.path 0 0).maxSegs ∧ s.activeCount ≠ 2048 ∧ s.freeList ≠ [] ∧
      64 ≤ ((s.setLead 0 0 64).path 0 0).lead ∧
      (u.path 0 0).chain.length < (u.path 0 0).maxSegs ∧ u.activeCount = 2048 ∧ u.phase = .due := by decide +kernel

/-- GrantsAndTimeoutsServeTheQueue, where the free list is empty: two VALID slots, and none; a head request at lead delay
63; and free counts on both sides of POOL_LOW. -/
theorem witness_reclaim :
    let none' : State := { due with queue := [⟨0, 0, .tail, 124⟩], freeList := [] }
    let two := (none'.modSlot 0 0 fun _ => ⟨.valid, false, some oneRecord, none⟩).modSlot 5 3 fun _ =>
      ⟨.valid, false, some { oneRecord with sequence := 2#32, entries := [⟨0, 0, [3070]⟩] }, none⟩
    (none'.path 0 0).chain.length < (none'.path 0 0).maxSegs ∧ none'.activeCount ≠ 2048 ∧
      (∀ m k, (none'.slot m k).tag ≠ .valid) ∧ (two.slot 0 0).record = some oneRecord ∧
      (∀ m k, (two.slot m k).tag = .valid → ¬(m = 0 ∧ k = 0) → m = 5 ∧ k = 3) ∧
      oneRecord.sequence.toNat < (2#32).toNat ∧ oneRecord.entries.flatMap PathEntry.chain = [3071] ∧
      ((none'.setLead 0 0 63).path 0 0).lead < 64 ∧ none'.freeCount < none'.active.poolLow ∧
      due.active.poolLow ≤ due.freeCount ∧ ({ none' with lowPool := true } : State).lowPool = true := by decide +kernel

/-- CommitsSpansAndSessionsEnd: both kinds of session at idle counts 249 and 248, a set staged with countdowns 0 and 1,
hold spans at 1 and 2, a frame end that staged no set. -/
theorem witness_timed_ends :
    (sessionOf .importing 0 249).kind = .importing ∧ (sessionOf .exporting 0 249).kind = .exporting ∧
      249 ≤ (sessionOf .importing 0 249).idle ∧
      ({ due with session := some (sessionOf .importing 0 249) } : State).phase = .due ∧
      (due.stage .paramCommit 0 0).staged.isSome = true ∧ (due.stage .paramCommit 0 0).countdown = 0 ∧
      ((due.modMic 0 fun x => { x with holdSpan := 1 }).mic 0).holdSpan = 1 ∧
      (sessionOf .importing 0 248).idle < 249 ∧ 0 < (due.stage .paramCommit 1 0).countdown ∧
      ((due.modMic 0 fun x => { x with holdSpan := 2 }).mic 0).holdSpan ≠ 1 ∧
      (due.openingWork []).stagedNow = false := by decide +kernel

/-- DivergenceRollsBack: a LIVE microphone in FAR at divergence count 5 with Ee above Ed, with no record and with two
at rollback count 0, the newer of which fits. -/
theorem witness_divergence :
    let s := (due.modTalk 0 fun t => { t with talk := .far, divCount := 5 }).modEngine 0 fun e => { e with sumE := 128 }
    let newer : CkptRecord := { oneRecord with sequence := 2#32 }
    let u := (s.modSlot 0 0 fun _ => ⟨.held, false, some oneRecord, none⟩).modSlot 0 1 fun _ =>
      ⟨.valid, false, some newer, none⟩
    s.phase = .due ∧ 0 < s.layout.mics ∧ (s.mic 0).talk.mode = .live ∧ (s.mic 0).talk.talk = .far ∧
      (s.mic 0).engine.sumD / 128 < (s.mic 0).engine.sumE / 128 ∧
      s.active.divFrames ≤ (s.mic 0).talk.divCount + 1 ∧ (∀ k, (s.slot 0 k).record = none) ∧
      (u.slot 0 1).record = some newer ∧ newer.rollbacks = 0 ∧ (∀ k, k ≠ 1 → (u.slot 0 k).record.isSome → k = 0) ∧
      oneRecord.sequence.toNat < newer.sequence.toNat ∧ u.restoreFits 0 newer = true ∧ u.copyFits 0 newer = true ∧
      (newer.entries.map PathEntry.r).Nodup ∧ u.enabled 0 0 = true := by decide +kernel

/-- DivergenceRollsBack: the one record at rollback count 0 has a segment more than the free list and the microphone's chains
hold, in a VALID and in a HELD slot; and a segment more than the engine capacity leaves. -/
theorem witness_divergence_tight :
    let event (s : State) : State :=
      ({ s with engine := .running, phase := .due, freeList := [] }.modTalk 0 fun t =>
        { t with talk := .far, divCount := 5 }).modEngine 0 fun e => { e with sumE := 128 }
    let long (n : Nat) : CkptRecord := { oneRecord with entries := [⟨0, 0, List.replicate n 3071⟩] }
    let s (tag : SlotTag) : State := event (withSlot ⟨tag, false, some (long 65), none⟩)
    let full : State := event (fullEngine.modSlot 0 0 fun _ => ⟨.valid, false, some (long 129), none⟩)
    ((s .valid).phase = .due ∧ ((s .valid).mic 0).talk.mode = .live ∧ ((s .valid).mic 0).talk.talk = .far ∧
        ((s .valid).mic 0).engine.sumD / 128 < ((s .valid).mic 0).engine.sumE / 128 ∧
        (s .valid).active.divFrames ≤ ((s .valid).mic 0).talk.divCount + 1 ∧ ((s .valid).slot 0 0).tag = .valid ∧
        ((s .valid).slot 0 0).exporting = false ∧ (∀ k, k ≠ 0 → ((s .valid).slot 0 k).record = none) ∧
        ((s .valid).slot 0 0).record = some (long 65) ∧ (long 65).rollbacks = 0 ∧
        (s .valid).restoreFits 0 (long 65) = true ∧ (s .valid).copyFits 0 (long 65) = false) ∧
      (((s .held).slot 0 0).tag = .held ∧ (s .held).restoreFits 0 (long 65) = true ∧
        (s .held).copyFits 0 (long 65) = false) ∧
      full.phase = .due ∧ (full.slot 0 0).tag = .valid ∧ (full.slot 0 0).record = some (long 129) ∧
        full.restoreFits 0 (long 129) = false := by decide +kernel

/-- EngineRunStartsFrameZero, EngineParkTakesWhatIsPending, MicResetRebuildsTheMicrophone and the requests that depend on
the engine state: both states accept. -/
theorem witness_engine_states :
    State.reset.accepting ∧ State.reset.engine = .parked ∧ running.accepting ∧ running.engine = .running ∧
      running.phase = .sampling ∧ State.reset.phase = .sampling := ⟨rfl, rfl, rfl, rfl, rfl, rfl⟩

/-- EngineParkTakesWhatIsPending: RUNNING with each kind of work pending, on microphones 0 to 4, and a microphone 5 with a
push pending and room for it. -/
theorem witness_park :
    let s := (((((running.modMic 0 fun x => { x with resetPending := true, trimPending := 9 }).modPath 1 2 fun x =>
      { x with limits := some ⟨1, 8, true, some 2047⟩ }).modRing 2 fun x => { x with recallPending := some 3 }).modSlot 3 0
      fun _ => ⟨.valid, false, some oneRecord, some .hold⟩).modSlot 4 1
      fun _ => ⟨.held, false, some oneRecord, some .discard⟩).stage .paramCommit 7 0
    let u := running.modRing 5 fun x => { x with pushPending := true }
    let v := (running.modSlot 2 3 fun _ => ⟨.held, false, some oneRecord, none⟩).modRing 2 fun x =>
      { x with recallPending := some 3 }
    s.phase = .sampling ∧ s.engine = .running ∧ s.accepting ∧ (s.mic 0).resetPending = true ∧
      (s.mic 1).resetPending = false ∧ (s.path 1 2).limits = some ⟨1, 8, true, some 2047⟩ ∧
      (s.mic 1).ring.recallPending = none ∧ (s.mic 3).ring.pushPending = false ∧
      (s.slot 3 0).command = some .hold ∧ (s.slot 4 1).command = some .discard ∧ s.staged ≠ none ∧
      (∀ m, (u.mic m).resetPending = false ∧ ∀ r, (u.path m r).limits = none) ∧
      (∀ m, m ≠ 5 → (u.mic m).ring.recallPending = none ∧ (u.mic m).ring.pushPending = false) ∧
      (∀ k : Fin 11, (u.link.faults.get k).severity = .advisory) ∧
      u.slot 5 ((u.mic 5).ring.top + 1) = Slot.blank ∧ u.micActive 5 ≤ u.freeCount ∧
      (v.mic 2).ring.recallPending = some 3 ∧ (v.mic 2).ring.pushPending = false ∧
      v.restoreFits 2 oneRecord = true ∧ v.copyFits 2 oneRecord = true := by
  refine ⟨rfl, rfl, rfl, ?_⟩
  decide +kernel

/-- EngineParkTakesWhatIsPending: RUNNING with nothing pending but a host flag, a source, a line entry and a staged set, the
COMMIT class unmasked and masked; and with no set staged. -/
theorem witness_park_quiet :
    let s := (((running.modTalk 4 fun x => { x with freezePending := true }).modOut 15 fun x =>
      { x with sourcePending := .direct }).modOutLine 3 fun x => { x with pendingEntry := some x.entry }).stage .paramCommit 7 0
    s.phase = .sampling ∧ s.engine = .running ∧ s.accepting ∧ s.link.clear = none ∧ running.staged = none ∧
      s.staged.isSome = true ∧ s.link.masks.getLsbD 8 = false ∧ (BitVec.allOnes 9).getLsbD 8 = true ∧
      ∀ m, (s.mic m).resetPending = false ∧ (s.mic m).trim = (s.mic m).trimPending ∧
        (s.mic m).ring.recallPending = none ∧ (s.mic m).ring.pushPending = false ∧
        (∀ k, (s.slot m k).command = none) ∧ ∀ r, (s.path m r).limits = none :=
  ⟨rfl, rfl, rfl, rfl, rfl, by decide +kernel⟩

/-- R151, R158: ENGINE.PARK of that state's staged set reports COMMIT with cause PARK, and freezes microphone 4. -/
theorem test_park_reports_the_commit :
    let t := after (.enginePark 0#8) ((running.modTalk 4 fun x => { x with freezePending := true }).stage .paramCommit 7 0)
    t.link.reports = [⟨0x78#8, 0#8, [0#8, 1#8, 7#8, 0#8, 0#8, 0#8, 0#8, 0#8]⟩] ∧ (t.mic 4).talk.mode = .frozen ∧
      (t.mic 5).talk.mode = .live := by decide +kernel

/-- LayoutSetAppliesALayout: room, no room in the free list, no room in the engine, and a value out of range. -/
theorem witness_layout :
    let none' : State := { State.reset with layout := ⟨16, 4, 0#64, 16⟩, freeList := [] }
    let packed : State := { fullEngine with layout := ⟨16, 4, 0#64, 16⟩ }
    State.reset.layoutNeeded .default ≤
        State.reset.freeCount + State.reset.layoutReleased .default + State.reset.layoutDiscarded .default ∧
      State.reset.activeCount - State.reset.layoutReleased .default + State.reset.layoutNeeded .default ≤ 2048 ∧
      none'.freeCount + none'.layoutReleased .default + none'.layoutDiscarded .default < none'.layoutNeeded .default ∧
      packed.layoutNeeded .default ≤
        packed.freeCount + packed.layoutReleased .default + packed.layoutDiscarded .default ∧
      2048 < packed.activeCount - packed.layoutReleased .default + packed.layoutNeeded .default ∧
      ¬(17#8 : Byte).toNat ≤ 16 ∧ (80#8 : Byte).toNat ≤ 80 := by decide +kernel

/-- ParamSetWritesTheShadow: a range, the three coded parameters at their bounds, and an id above 19. -/
theorem witness_param_set :
    paramRange (19#8 : Byte).toNat = some (0, 3072) ∧ (1#32).toNat ≤ 1 ∧ 0x8000 ≤ (0x8000#32).toNat ∧
      (0xFFFF#32).toNat ≤ 0xFFFF ∧ (2#32).toNat ≤ 2 ∧ 19 < (20#8 : Byte).toNat ∧ 0xFFFF < (0x10000#32).toNat ∧
      (0x7FFF#32).toNat < 0x8000 := by decide

/-- ParamGetReturnsASet and ParamCommitStagesTheShadow: a set staged and none, latencies 7 and 8; PARKED and RUNNING, and a
shadow set on which both cross-clamps act. -/
theorem witness_commit :
    let shadow : Params := { Params.default with growShift := Params.default.tailShift, rebalFrames := 1, adaptMin := 2 }
    State.reset.staged = none ∧ (running.stage .paramCommit 7 0).staged ≠ none ∧
      (running.stage .paramCommit 7 0).accepting ∧ (7#8 : Byte).toNat ≤ 7 ∧ 7 < (8#8 : Byte).toNat ∧
      2 < (3#8 : Byte).toNat ∧ State.reset.accepting ∧ State.reset.engine = .parked ∧ running.accepting ∧
      running.engine = .running ∧ running.staged = none ∧ shadow.tailShift - 1 < shadow.growShift ∧
      shadow.rebalFrames < shadow.adaptMin := by
  refine ⟨rfl, ?_, rfl, ?_⟩
  · decide +kernel
  · exact ⟨by decide, by decide, by decide, rfl, rfl, rfl, rfl, rfl, by decide, by decide⟩

/-- UnconfiguredLanesAreRefused: lane 16, lane 12 of a layout of 12, a header of each bound, and slot 4 of a configured lane. -/
theorem witness_unconfigured :
    16 ≤ (16#8 : Byte).toNat ∧ (⟨12, 4, BitVec.allOnes 64, 16⟩ : Layout).mics ≤ (12#8 : Byte).toNat ∧
      (requestFrame? (.queryMic 0#8 16#8)).isSome = true ∧ 9 ≤ (List.replicate 9 0#8).length ∧
      (List.replicate 21 0#8).length ≤ 21 ∧ 3 < (4#8 : Byte).toNat ∧ (0#8 : Byte).toNat < State.reset.layout.mics ∧
      (requestFrame? (.imageExport 0#8 0#8 4#8)).isSome = true := by decide

/-- TrimMovesPendingSteps: codes 0 to 2 for configured lanes, code 3, and a lane's code outside the layout. -/
theorem witness_trim :
    State.reset.accepting ∧ (∀ m : MicLane, ((tabulate 16 fun _ => 2#8 : Vector Byte 16).get m).toNat ≤ 2) ∧
      15 < State.reset.layout.mics ∧ 2 < ((tabulate 16 fun _ => 3#8 : Vector Byte 16).get 0).toNat := ⟨rfl, by decide +kernel⟩

/-- One segment in one chain, its coefficients at their greatest, COEF_SAT unmasked and HALTING. -/
def clamping : State :=
  (oneChain.modSegment 5 fun x => { x with coefs := tabulate 64 fun _ => 8388607 }).modFault .coefSat fun e =>
    { e with masked := false, severity := .halting }

/-- `clamping`'s chains share no segment. -/
theorem clamping_apart : clamping.chainsApart := by
  have same : ∀ m r, clamping.path m r = oneChain.path m r := fun m r => by simp [clamping]
  unfold State.chainsApart
  simp only [same]
  exact oneChain_apart

/-- TrimMovesPendingSteps, PARKED: chains that share no segment, a code that raises the step of the one microphone with a
chain, a coefficient that the rescale clamps, COEF_SAT unmasked and HALTING with the first-fault record empty; and COEF_SAT
masked. -/
theorem witness_trim_parked :
    clamping.chainsApart ∧ clamping.accepting ∧ clamping.engine = .parked ∧ clamping.phase = .sampling ∧
      (clamping.path 0 0).chain = [5] ∧ (∀ j, (clamping.segment 5).coefs.get j = 8388607) ∧
      (∀ m : MicLane, (((tabulate 16 fun m => if m = 0 then 1#8 else 0#8) : Vector Byte 16).get m).toNat ≤ 2) ∧
      0 < clamping.layout.mics ∧ (clamping.mic 0).trim = 8 ∧ (clamping.mic 0).trimPending = 8 ∧
      8388607 < roundQuotient clamping.active.rounding (8388607 * trimGain 9) (trimGain 8) ∧
      (clamping.faultEntry .coefSat).masked = false ∧ (clamping.faultEntry .coefSat).severity = .halting ∧
      clamping.link.first = none ∧ (State.reset.faultEntry .coefSat).masked = true :=
  ⟨clamping_apart, rfl, rfl, rfl, by decide +kernel⟩

/-- R17, R38, R56: that clamped rescale sets the sticky flag, raises one fault with detail 255, 255 and a tally of 64, and
halts the microphone. -/
theorem test_clamped_trim_parked :
    let t := after (.trim 0#8 (tabulate 16 fun m => if m = 0 then 1#8 else 0#8)) clamping
    (t.mic 0).trim = 9 ∧ (t.mic 0).engine.sticky.coef = true ∧ (t.mic 0).talk.mode = .halted ∧
      (t.faultEntry .coefSat).count = 1 ∧
      t.link.first = some ⟨.coefSat, 0, 0#32, ⟨255#8, 255#8, 64#8, 0#8⟩⟩ := by decide +kernel

/-- PathLimitsBecomePending: an enabled path and, in a layout of 12 microphones, one that is not; limits at their bounds,
and each bound passed; a chain at `max_segs` and above it, with the TAIL class unmasked. -/
theorem witness_limits :
    State.reset.accepting ∧ State.reset.enabled 15 3 = true ∧ 1 ≤ (1#8 : Byte).toNat ∧ (80#8 : Byte).toNat ≤ 80 ∧
      (3#8 : Byte).toNat < 4 ∧ (2047#16).toNat ≤ 2047 ∧ 80 < (81#8 : Byte).toNat ∧ 2047 < (2048#16).toNat ∧
      (3#8 : Byte).getLsbD 1 = true ∧
      (∀ (m : MicLane) (r : RefLane), 12#8 = byteOf m.val → 0#8 = byteOf r.val →
        ({ State.reset with layout := ⟨12, 4, BitVec.allOnes 64, 16⟩ } : State).enabled m r = false) ∧
      (State.reset.path 15 3).chain.length ≤ (16#8 : Byte).toNat ∧
      (15#8 : Byte).toNat < (State.reset.path 15 3).chain.length ∧ State.reset.link.masks.getLsbD 4 = false :=
  ⟨rfl, by decide +kernel⟩

/-- FreezeMuteAndOutputSource: a mask of configured lanes, one of them neither halted nor with another cause, and a mask with
lane 12 of a layout of 12. -/
theorem witness_masks :
    State.reset.accepting ∧ (∀ m : MicLane, (0xFFFF#16).getLsbD m.val = true → m.val < State.reset.layout.mics) ∧
      (0x1000#16).getLsbD 12 = true ∧ (⟨12, 4, BitVec.allOnes 64, 16⟩ : Layout).mics ≤ 12 ∧
      1 < (2#8 : Byte).toNat ∧ 2 < (3#8 : Byte).toNat ∧ State.reset.engine = .parked ∧ State.reset.phase = .sampling ∧
      (0xFFFF#16).getLsbD 15 = true ∧ (State.reset.mic 15).talk.halt = false ∧
      (State.reset.mic 15).talk.levelHold = false ∧ (State.reset.mic 15).holdSpan = 0 :=
  ⟨rfl, by decide +kernel⟩

/-- PushMakesARecord: a halted microphone, RUNNING, and PARKED with an EMPTY slot after the top and room. -/
theorem witness_push :
    State.reset.accepting ∧ 0 < State.reset.layout.mics ∧ (State.reset.mic 0).talk.halt = false ∧
      State.reset.slot 0 ((State.reset.mic 0).ring.top + 1) = Slot.blank ∧
      State.reset.micActive 0 ≤ State.reset.freeCount ∧
      ((State.reset.modTalk 0 fun t => { t with halt := true }).mic 0).talk.halt = true ∧
      oneChain.micActive 0 ≤ oneChain.freeCount ∧ oneChain.freeList.Nodup ∧
      (∀ (m : MicLane) (r : RefLane), ∀ i ∈ (oneChain.path m r).chain, i ∉ oneChain.freeList) := by
  have free : (5 : SegIndex) ∉ oneChain.freeList := by decide +kernel
  have rest : 0 < State.reset.layout.mics ∧ (State.reset.mic 0).talk.halt = false ∧
      State.reset.slot 0 ((State.reset.mic 0).ring.top + 1) = Slot.blank ∧
      State.reset.micActive 0 ≤ State.reset.freeCount := by decide +kernel
  have one : oneChain.micActive 0 ≤ oneChain.freeCount ∧ oneChain.freeList.Nodup := by decide +kernel
  refine ⟨rfl, rest.1, rest.2.1, rest.2.2.1, rest.2.2.2, by decide +kernel, one.1, one.2, fun m r i h => ?_⟩
  rw [oneChain_chains] at h
  split at h <;> simp_all

/-- PushMakesARecord: every slot passed over; two HELD slots before a VALID one, and before an EMPTY one; room, too little
room, and room once the other VALID slot is evicted. -/
theorem witness_push_placement :
    let slots (a b c d : Slot) : State := ((((State.reset.modSlot 0 0 fun _ => a).modSlot 0 1 fun _ => b).modSlot 0 2
      fun _ => c).modSlot 0 3 fun _ => d)
    let held : Slot := ⟨.held, false, some oneRecord, none⟩
    let valid : Slot := ⟨.valid, false, some oneRecord, none⟩
    let long : CkptRecord :=
      ⟨1#32, 0#32, 8, 0, false, .clear, 0, [⟨0, 0, (List.range 64).map fun i => Fin.ofNat 3072 (3008 + i)⟩]⟩
    let two : State := { slots valid Slot.blank ⟨.valid, false, some long, none⟩ Slot.blank with freeList := [7] }
    (∀ k, ((slots held held held ⟨.valid, true, some oneRecord, none⟩).slot 0 k).tag = .held ∨
      ((slots held held held ⟨.valid, true, some oneRecord, none⟩).slot 0 k).exporting = true) ∧
      (∀ j : Fin 4, j < 2 → ((slots held held valid held).slot 0 (3 + 1 + j)).tag = .held) ∧
      ((slots held held valid held).slot 0 (3 + 1 + 2)).tag = .valid ∧
      ((slots held held Slot.blank held).slot 0 (3 + 1 + 2)).tag = .empty ∧
      ((slots held held valid held).mic 0).ring.top = 3 ∧
      (slots held held valid held).micActive 0 ≤ (slots held held valid held).freeCount + 1 ∧
      ({ slots held held valid held with freeList := [] } : State).freeCount + 1 <
        (slots held held valid held).micActive 0 ∧
      two.freeCount + 1 < two.micActive 0 ∧ two.micActive 0 ≤ two.freeCount + 1 + entriesSegments long.entries ∧
      (∀ k, k ≠ 0 → (two.slot 0 k).tag = .valid → k = 2) := by decide +kernel

/-- PushMakesARecord, the automatic push: every condition of R108 holds where nothing else of the frame end is left, with
an EMPTY slot after the top and with every slot HELD; and one fails at wait count 624. -/
theorem witness_auto_push :
    let s := taking.modRing 0 fun x => { x with interval := 625 }
    ∃ w, s.phase = .taking w ∧ w.pushTaken.get 0 = false ∧ w.adapting.get 0 = true ∧
      w.governing.ckptInterval ≤ (s.mic 0).ring.interval ∧ s.liveNext 0 = true ∧
      w.governing.ckptIndex ≤ 16 ∧ ¬w.governing.ckptInterval ≤ 624 ∧
      s.slot 0 ((s.mic 0).ring.top + 1) = Slot.blank ∧ s.micActive 0 ≤ s.freeCount ∧
      (tablePut w.handover 0 (some ⟨16, true, true, false, false⟩)).get 0 = some ⟨16, true, true, false, false⟩ := by
  refine ⟨_, rfl, ?_⟩
  decide +kernel

/-! ### Sound pools -/

/-- A list is without duplicates where some rotation of it counts up from 0. -/
theorem nodup_of_rotate {l : List SegIndex} (n : Nat) (h : (l.map Fin.val).rotate n = List.range 3072) : l.Nodup := by
  have h' : ((l.map Fin.val).rotate n).Nodup := h ▸ List.nodup_range
  exact (List.nodup_rotate.mp h').of_map

/-- A pool of segments of the given owners, zero-filled and with energy 0. -/
def poolOf (owner : Nat → Owner) : Vector Segment 3072 := tabulate 3072 fun i => ⟨owner i, zeroCoefs, 0⟩

/-- The owners name the places of the free list, the chains and the slots: a Bool, which the kernel evaluates flatly. -/
def ownerChecks (owner : Nat → Owner) (s : State) : Bool :=
  (s.freeList.all fun i => owner i.val == .free) &&
    (allMics.all fun m => allRefs.all fun r => (s.path m r).chain.zipIdx.all fun q => owner q.1.val == .active m r q.2) &&
    allMics.all fun m => allSlots.all fun k => (s.slotEntries m k).all fun e => e.chain.zipIdx.all fun q =>
      owner q.1.val == .checkpoint m k e.r q.2

/-- In a pool of the owners, the owners name the places of all segments. -/
theorem ownersSound_of {owner : Nat → Owner} {s : State} (pool : s.pool = poolOf owner)
    (h : ownerChecks owner s = true) : s.ownersSound := by
  have seg (i : SegIndex) : s.segment i = ⟨owner i.val, zeroCoefs, 0⟩ := by simp [State.segment, pool, poolOf]
  simp only [ownerChecks, Bool.and_eq_true, List.all_eq_true, beq_iff_eq] at h
  refine ⟨fun i x => ?_, fun m r p i x => ?_, fun m k e y p i x => ?_⟩ <;> rw [seg i]
  · exact ⟨h.1.1 i x, rfl⟩
  · exact h.1.2 m (mem_allMics m) r (mem_allRefs r) (i, p) (List.mk_mem_zipIdx_iff_getElem?.mpr x)
  · exact ⟨h.2 m (mem_allMics m) k (mem_allSlots k) e y (i, p) (List.mk_mem_zipIdx_iff_getElem?.mpr x), rfl⟩

/-- The counts, chains, slots and session of a sound pool, each decidable, with no limits pending. -/
def checks (s : State) : Prop :=
  (s.freeCount + s.activeCount + s.checkpointCount = 3072 ∧ s.activeCount ≤ 2048) ∧
    (∀ m r, ((s.path m r).chain.length ≤ 80 ∧ (s.path m r).lead ≤ 2047 ∧ (s.path m r).maxSegs ≤ 80) ∧
      (s.path m r).limits = none ∧ (s.enabled m r = false → (s.path m r).chain = [] ∧ (s.path m r).lead = 0)) ∧
    (∀ m k, ((s.slot m k).record.isSome = true ↔ (s.slot m k).tag = .valid ∨ (s.slot m k).tag = .held) ∧
      (∀ rec ∈ (s.slot m k).record, (rec.entries.map PathEntry.r).Nodup ∧
        ∀ e ∈ rec.entries, e.chain.length ≤ 80 ∧ e.lead ≤ 2047) ∧
      ((s.slot m k).tag = .filling ↔ s.session.any (fun x => x.kind == .importing && x.m == m && x.slot == k) = true)) ∧
    ∀ x ∈ s.session, (x.entries.map PathEntry.r).Nodup ∧ ∀ e ∈ x.entries, e.chain.length ≤ 80 ∧ e.lead ≤ 2047

/-- A pool is sound where its places count up from 0 once rotated, its checks hold, its owners name the places and the growth
queue is empty. -/
theorem poolSound_of {s : State} (n : Nat) (owner : Nat → Owner)
    (places : (s.places.map Fin.val).rotate n = List.range 3072) (h : checks s) (pool : s.pool = poolOf owner)
    (owners : ownerChecks owner s = true) (queue : s.queue = []) (phase : s.phase = .sampling) : s.poolSound where
  apart := nodup_of_rotate n places
  whole := h.1.1
  capacity := h.1.2
  chains m r := by
    obtain ⟨limits, none', off⟩ := h.2.1 m r
    exact ⟨limits, by simp [none'], fun o => ⟨(off o).1, (off o).2, none'⟩⟩
  slots := by
    refine ⟨fun m k => ⟨(h.2.2.1 m k).1, fun rec x => (h.2.2.1 m k).2.1 rec x, (h.2.2.1 m k).2.2.trans ?_⟩, fun x y _ =>
      h.2.2.2 x y⟩
    simp only [Option.any_eq_true, Bool.and_eq_true, beq_iff_eq, and_assoc]
  queue := by simp [State.queueSound, queue, phase]
  owners := ownersSound_of pool owners

/-- The owners after power-on (R73). -/
def resetOwners (i : Nat) : Owner := (Segment.powerOn i).owner

/-- The owners of `stocked`. -/
def stockedOwners (i : Nat) : Owner :=
  if 1024 ≤ i ∧ i < 1028 then .checkpoint 0 (Fin.ofNat 4 (i - 1024)) 0 0
  else if i = 1028 then .checkpoint 1 0 0 0
  else resetOwners i

/-- Reset with five segments in slots: VALID, HELD, exporting and command-pending slots of microphone 0, and slot 0 of
microphone 1 FILLING under an import. -/
def stocked : State :=
  let rec' (i : SegIndex) : CkptRecord := { oneRecord with entries := [⟨0, 0, [i]⟩] }
  let slot (m : Nat) (k : Nat) : Slot :=
    match m, k with
    | 0, 0 => ⟨.valid, false, some (rec' 1024), none⟩
    | 0, 1 => ⟨.held, false, some (rec' 1025), none⟩
    | 0, 2 => ⟨.valid, true, some (rec' 1026), none⟩
    | 0, 3 => ⟨.held, false, some (rec' 1027), some .release⟩
    | 1, 0 => ⟨.filling, false, none, none⟩
    | _, _ => Slot.blank
  { State.reset with
    freeList := (List.range 2043).map fun i => Fin.ofNat 3072 (1029 + i)
    pool := poolOf stockedOwners
    session := some ⟨.importing, 1, 0, [⟨0, 0, [1028]⟩], 0, 0, 8, 0, false, .clear⟩
    mics := tabulate 16 fun m =>
      { Mic.powerOn m with ring := { Ring.blank with slots := tabulate 4 (slot m) } } }

/-- The owners of `crowded`: its chains and records hold the segments in ascending index. -/
def crowdedOwners (i : Nat) : Owner :=
  if i < 4 then .active 0 (Fin.ofNat 4 i) 0
  else if i < 1924 then
    .active (Fin.ofNat 16 (1 + (i - 4) / 32 / 4)) (Fin.ofNat 4 ((i - 4) / 32 % 4)) ((i - 4) % 32)
  else if i < 1938 then .checkpoint 0 0 0 (i - 1924)
  else
    .checkpoint (Fin.ofNat 16 (((i - 1938) / 18 + 1) / 4)) (Fin.ofNat 4 (((i - 1938) / 18 + 1) % 4)) 0 ((i - 1938) % 18)

/-- An empty free list: chains of 32 segments, of 1 on microphone 0, and the rest in VALID slots but slot 1 of microphone
0, which is HELD. -/
def crowded : State :=
  let segs (a n : Nat) : List SegIndex := (List.range n).map fun i => Fin.ofNat 3072 (a + i)
  let slot (m k : Nat) : Slot :=
    if m = 0 ∧ k = 0 then ⟨.valid, false, some { oneRecord with entries := [⟨0, 64, segs 1924 14⟩] }, none⟩
    else ⟨if m = 0 ∧ k = 1 then .held else .valid, false,
      some { oneRecord with entries := [⟨0, 0, segs (1938 + 18 * (4 * m + k - 1)) 18⟩] }, none⟩
  { State.reset with
    freeList := []
    pool := poolOf crowdedOwners
    paths := tabulate 16 fun m => tabulate 4 fun r =>
      { Path.powerOn 0 with chain := if m = 0 then segs r 1 else segs (4 + 32 * (4 * m + r - 4)) 32 }
    mics := tabulate 16 fun m =>
      { Mic.powerOn m with ring := { Ring.blank with slots := tabulate 4 (slot m) } } }

/-- The reset state, which MicResetRebuildsTheMicrophone, LayoutSetAppliesALayout and StepsKeepThePoolSound start from,
has a sound pool. -/
theorem reset_poolSound : State.reset.poolSound :=
  poolSound_of 2048 resetOwners (by decide +kernel) (by unfold checks; decide +kernel) rfl
    (by decide +kernel) rfl rfl

/-- LayoutSetAppliesALayout: a sound pool in a layout that enables no path, whose free list has room for the default
layout's chains. -/
theorem witness_new_paths :
    let s : State := { State.reset with
      layout := ⟨16, 4, 0#64, 16⟩
      freeList := (List.range 3072).map fun i => Fin.ofNat 3072 i
      pool := poolOf fun _ => .free
      paths := tabulate 16 fun _ => tabulate 4 fun _ => { Path.powerOn 0 with chain := [] } }
    s.poolSound ∧ s.accepting ∧ s.engine = .parked ∧ s.layoutNeeded .default ≤ s.freeCount ∧
      s.activeCount - s.layoutReleased .default + s.layoutNeeded .default ≤ 2048 ∧ s.enabled 0 0 = false ∧
      Layout.default.enables 0 0 = true := by
  refine ⟨?_, rfl, rfl, by decide +kernel⟩
  exact poolSound_of 0 (fun _ => .free) (by decide +kernel) (by unfold checks; decide +kernel) rfl
    (by decide +kernel) rfl rfl

/-- A sound pool stays one where the engine state and the phase alone change to RUNNING. -/
theorem poolSound_run {s : State} (h : s.poolSound) (p : FramePhase) :
    ({ s with engine := .running, phase := p } : State).poolSound :=
  ⟨h.apart, h.whole, h.capacity, h.chains, h.slots, ⟨h.queue.1, h.queue.2.1, h.queue.2.2.1, by simp⟩, h.owners⟩

/-- A sound pool stays one where commands wait. -/
theorem poolSound_pending {s : State} (h : s.poolSound) (p : List Instr) : ({ s with pending := p } : State).poolSound :=
  ⟨h.apart, h.whole, h.capacity, h.chains, h.slots, h.queue, h.owners⟩

/-- SlotRequestsActOnTheirSlot and MicResetRebuildsTheMicrophone: sound pools, PARKED and RUNNING, with a VALID, a HELD, an
exporting, an EMPTY and a FILLING slot and a command pending; a copy of the record fits. -/
theorem witness_stocked :
    stocked.poolSound ∧ ({ stocked with engine := .running } : State).poolSound ∧ stocked.accepting ∧
      stocked.engine = .parked ∧ 1 < stocked.layout.mics ∧ (stocked.slot 0 0).tag = .valid ∧
      (stocked.slot 0 1).tag = .held ∧ (stocked.slot 0 0).record ≠ none ∧ (stocked.slot 0 1).record ≠ none ∧
      (stocked.slot 0 0).command = none ∧ (stocked.slot 0 1).command = none ∧ (stocked.slot 0 2).exporting = true ∧
      (stocked.slot 0 3).command ≠ none ∧ (stocked.slot 1 0).tag = .filling ∧ (stocked.slot 1 1).tag = .empty ∧
      stocked.activeCount - stocked.micActive 0 + 1 ≤ 2048 ∧ 1 ≤ stocked.freeList.length := by
  have h : stocked.poolSound := poolSound_of 2043 stockedOwners (by decide +kernel) (by unfold checks; decide +kernel) rfl
    (by decide +kernel) rfl rfl
  exact ⟨h, poolSound_run h .sampling, rfl, rfl, by decide +kernel⟩

/-- SlotRequestsActOnTheirSlot: a recall whose record the free list and the chains cannot hold, of a VALID slot (a move)
and of a HELD one (the chains zeroed). -/
theorem witness_crowded :
    crowded.poolSound ∧ crowded.accepting ∧ (crowded.slot 0 0).tag = .valid ∧ (crowded.slot 0 0).exporting = false ∧
      (crowded.slot 0 1).tag = .held ∧
      (crowded.freeList ++ allRefs.flatMap fun r => (crowded.path 0 r).chain).length < crowded.slotSegments 0 0 ∧
      (crowded.freeList ++ allRefs.flatMap fun r => (crowded.path 0 r).chain).length < crowded.slotSegments 0 1 ∧
      crowded.activeCount - crowded.micActive 0 + crowded.slotSegments 0 1 ≤ 2048 := by
  refine ⟨?_, rfl, by decide +kernel⟩
  exact poolSound_of 0 crowdedOwners (by decide +kernel) (by unfold checks; decide +kernel) rfl
    (by decide +kernel) rfl rfl

/-- SlotRequestsActOnTheirSlot: a VALID and a HELD slot with a record, and a pending command; a copy of the record fits. -/
theorem witness_slots_with_records :
    ((withSlot ⟨.valid, false, some oneRecord, none⟩).slot 0 0).tag = .valid ∧
      ((withSlot ⟨.held, false, some oneRecord, none⟩).slot 0 0).tag = .held ∧
      ((withSlot ⟨.valid, false, some oneRecord, none⟩).slot 0 0).record = some oneRecord ∧
      ((withSlot ⟨.valid, false, some oneRecord, some .hold⟩).slot 0 0).command ≠ none ∧
      (withSlot ⟨.valid, false, some oneRecord, none⟩).restoreFits 0 oneRecord = true ∧
      (withSlot ⟨.valid, false, some oneRecord, none⟩).copyFits 0 oneRecord = true ∧
      (withSlot ⟨.valid, false, some oneRecord, none⟩).engine = .parked ∧
      (withSlot ⟨.valid, false, some oneRecord, none⟩).phase = .sampling := by decide +kernel

/-- SlotRequestsActOnTheirSlot, the recall of a frame end: sound pools, with a recall pending of a VALID slot whose copy fits, of
an EMPTY one, and of a VALID and a HELD one whose copies do not. -/
theorem witness_pending_recall :
    let recalling (s : State) (k : SlotIndex) : State := s.modRing 0 fun x => { x with recallPending := some k }
    let run (s : State) : State := { s with engine := .running, phase := taking.phase }
    (run (recalling stocked 0)).poolSound ∧ (run (recalling crowded 0)).poolSound ∧
      (run (recalling crowded 1)).poolSound ∧ (∃ w, (run (recalling stocked 0)).phase = .taking w) ∧
      ((recalling stocked 0).mic 0).ring.recallPending = some 0 ∧ (taking.mic 0).ring.recallPending = none ∧
      ((recalling State.reset 2).slot 0 2).tag = .empty := by
  intro recalling run
  have a : (recalling stocked 0).poolSound := poolSound_of 2043 stockedOwners (by decide +kernel) (by unfold checks; decide +kernel) rfl
    (by decide +kernel) rfl rfl
  have b : (recalling crowded 0).poolSound := poolSound_of 0 crowdedOwners (by decide +kernel) (by unfold checks; decide +kernel) rfl
    (by decide +kernel) rfl rfl
  have c : (recalling crowded 1).poolSound := poolSound_of 0 crowdedOwners (by decide +kernel) (by unfold checks; decide +kernel) rfl
    (by decide +kernel) rfl rfl
  exact ⟨poolSound_run a _, poolSound_run b _, poolSound_run c _, ⟨_, rfl⟩, by decide +kernel⟩

/-- SlotRequestsActOnTheirSlot, the slot commands of a frame end: each command on a slot of each tag, and on an exporting one. -/
theorem witness_slot_command (c : SlotCommand) (tag : SlotTag) (exporting : Bool) :
    (∃ w, (taking.modSlot 0 3 fun _ => ⟨tag, exporting, some oneRecord, some c⟩).phase = .taking w) ∧
      (taking.modSlot 0 3 fun _ => ⟨tag, exporting, some oneRecord, some c⟩).slot 0 3 =
        ⟨tag, exporting, some oneRecord, some c⟩ ∧ (taking.slot 0 3).command = none :=
  ⟨⟨_, rfl⟩, by cases c <;> cases tag <;> cases exporting <;> decide +kernel⟩

/-- GrantsAndTimeoutsServeTheQueue: a request of a path in chains that share no segment, the head of the free list in none of
them. -/
theorem witness_grant_apart :
    let s : State := { oneChain with engine := .running, phase := .due, queue := [⟨0, 0, .head, 0⟩] }
    s.chainsApart ∧ s.freeList = [10, 11] ∧ (10 : SegIndex) ∉ (s.path 0 0).chain ∧ s.activeCount ≠ 2048 ∧
      (s.path 0 0).chain.length < (s.path 0 0).maxSegs ∧ 64 ≤ ((s.setLead 0 0 64).path 0 0).lead :=
  ⟨oneChain_apart, by decide +kernel⟩

/-- LayoutSetAppliesALayout: a session on a microphone that a layout of one microphone makes unconfigured. -/
theorem witness_leaving :
    stocked.poolSound ∧ stocked.accepting ∧ stocked.engine = .parked ∧ stocked.session.map Session.m = some 1 ∧
      1 < stocked.layout.mics ∧ stocked.layout.refs ≠ 3 ∧ stocked.layoutNeeded ⟨1, 3, 15#64, 16⟩ = 0 ∧
      stocked.activeCount ≤ 2048 := ⟨witness_stocked.1, rfl, rfl, by decide +kernel⟩

/-- ExportReadsARecord: no session and a record with segments, with an entry that has none, and with no entries; sessions
before and at their last chunk. -/
theorem witness_export :
    let bare : CkptRecord := { oneRecord with entries := [⟨0, 0, []⟩] }
    ((withSlot ⟨.held, false, some bare, none⟩).slot 0 0).record = some bare ∧ bare.entries ≠ [] ∧
      entriesSegments bare.entries = 0 ∧ ({ bare with entries := [] } : CkptRecord).entries = [] ∧
      (withSlot ⟨.valid, false, some oneRecord, none⟩).session = none ∧ oneRecord.entries ≠ [] ∧
      0 < entriesSegments oneRecord.entries ∧ (sessionOf .exporting 0 0).chunks ≤ (sessionOf .exporting 0 0).cursor + 1 ∧
      ({ sessionOf .exporting 0 0 with entries := [⟨0, 0, List.replicate 5 0⟩] } : Session).cursor + 1 <
        ({ sessionOf .exporting 0 0 with entries := [⟨0, 0, List.replicate 5 0⟩] } : Session).chunks := by decide +kernel

/-- ImportReservesItsRoom: the free list of the reset state, without duplicates. -/
theorem witness_free_list : State.reset.freeList.Nodup := by
  have h := reset_poolSound.apart
  unfold State.places at h
  exact (h.of_append_left).of_append_left

/-- ImportReservesItsRoom: the headers of one segment and of none on lane 0 are well formed; one of format 2 is not; a VALID
slot whose record and the free list together lack one segment. -/
theorem witness_import :
    State.reset.accepting ∧ State.reset.session = none ∧ State.reset.slot 0 0 = Slot.blank ∧
      headerFailure State.reset.layout [1#8, 8#8, 0#8, 0#8, 1#8, 0#8, 0#8, 0#8, 1#8] = none ∧
      headerSegments [1#8, 8#8, 0#8, 0#8, 1#8, 0#8, 0#8, 0#8, 1#8] = 1 ∧ 1 ≤ State.reset.freeCount ∧
      headerFailure State.reset.layout [2#8, 8#8, 0#8, 0#8, 1#8, 0#8, 0#8, 0#8, 1#8] ≠ none ∧
      ({ State.reset with freeList := [] } : State).freeCount < 1 ∧
      headerFailure State.reset.layout [1#8, 8#8, 0#8, 0#8, 1#8, 0#8, 0#8, 0#8, 0#8] = none ∧
      headerSegments [1#8, 8#8, 0#8, 0#8, 1#8, 0#8, 0#8, 0#8, 0#8] = 0 ∧
      headerSegments [1#8, 8#8, 0#8, 0#8, 1#8, 0#8, 0#8, 0#8, 2#8] =
        ({ withSlot ⟨.valid, false, some oneRecord, none⟩ with freeList := [] } : State).freeCount +
          (oneRecord.entries.flatMap PathEntry.chain).length + 1 ∧
      Layout.default.refs ≤ 4 := ⟨rfl, by decide +kernel⟩

/-- WritesFillTheReservation: a chunk at the cursor, before the last and the last, a wrong index, and no import open. -/
theorem witness_write :
    let long : Session := { sessionOf .importing 0 0 with entries := [⟨0, 0, [1, 2, 3, 4, 5]⟩] }
    (Instr.imageWrite 0#8 0#16 (List.replicate 768 0#8)).wellFormed = true ∧
      (List.replicate 768 0#8).length = 192 * (long.chunk long.cursor).length ∧ (long.chunk long.cursor).Nodup ∧
      long.cursor + 1 < long.chunks ∧
      (List.replicate 192 0#8).length = 192 * ((sessionOf .importing 0 0).chunk 0).length ∧
      (sessionOf .importing 0 0).chunks ≤ (sessionOf .importing 0 0).cursor + 1 ∧
      ¬(1#16).toNat = long.cursor ∧ (long.entries.map PathEntry.r).Nodup ∧ State.reset.session = none ∧
      (sessionOf .exporting 0 0).kind = .exporting := by decide +kernel

/-- QueryMicReturnsTheRecord and PoolAndPathQueries: a configured lane, an enabled path with and without one request, a
path that is not enabled, the indices 3071 and 3072, a FREE segment in the free list. -/
theorem witness_queries :
    State.reset.accepting ∧ 15 < State.reset.layout.mics ∧ State.reset.enabled 15 3 = true ∧ 3071 < (3072#16).toNat ∧
      (State.reset.segment 3071).owner = .free ∧ (State.reset.segment 0).owner ≠ .free ∧
      State.reset.freeList.head? = some 1024 ∧
      ([⟨15, 3, .head, 1⟩, ⟨0, 3, .tail, 0⟩] : List GrowRequest).filter (fun z => z.m == 15 && z.r == 3) =
        [⟨15, 3, .head, 1⟩] ∧ State.reset.queue = [] ∧
      (∀ (m : MicLane) (r : RefLane), 0#8 = byteOf m.val → 4#8 = byteOf r.val → State.reset.enabled m r = false) :=
  ⟨rfl, by decide +kernel⟩

/-- LineRequestsActOnTheirLine: an input and an output entry R166 accepts, one it refuses, and a line with an event
action; PARKED and RUNNING, both accepting. -/
theorem witness_lines :
    State.reset.accepting ∧ State.reset.engine = .parked ∧ State.reset.phase = .sampling ∧ running.accepting ∧
      running.engine = .running ∧
    (inEntryOperand 2#8 3#8 255#8 1#16).isSome = true ∧ (outEntryOperand 1#8 9#8 0#8 1#16).isSome = true ∧
      inEntryOperand 0#8 3#8 1#8 1#16 = none ∧ outEntryOperand 0#8 10#8 0#8 0#16 = none ∧
      ((running.modInLine 7 fun x => { x with entry := ⟨false, .rising, .push, 0, 1#16⟩ }).inLines.get 7).entry.action ∉
        [LineAction.none, .holdLevel, .muteLevel] ∧
      (running.inLines.get 0).entry.action ∈ [LineAction.none, .holdLevel, .muteLevel] ∧ 7 < (8#8 : Byte).toNat :=
  ⟨rfl, rfl, rfl, rfl, rfl, by decide +kernel⟩

/-- The default set is in range and cross-clamped. -/
theorem default_sound : Params.default.inRange ∧ Params.default.crossClamped := by
  refine ⟨⟨?_, by decide⟩, by unfold Params.crossClamped; decide⟩
  intro id lo hi h
  unfold paramRange at h
  split at h <;> simp at h <;> (obtain ⟨rfl, rfl⟩ := h; decide)

/-- FRAME_END while samples are being taken leaves all but the queue. -/
theorem frameEnd_step (s : State) (h : s.phase = .sampling) :
    step { s with pending := [.frameEnd] } = .next { s with pending := [] } := by
  simp [step, exec, execFrameEnd, State.frameEnd, State.frameEnding, h]

/-- StepsKeepTheLinkSound, StepsKeepTheTuningSound, StepsKeepTheGeneratorsRunning and StepsKeepThePoolSound: a sound
state with a command waiting, and the step it takes. -/
theorem witness_sound_step :
    let s : State := { running with pending := [.frameEnd] }
    s.link.sound ∧ s.tuningSound ∧ s.generatorsRun ∧ s.poolSound ∧ step s = .next { running with pending := [] } := by
  refine ⟨⟨rfl, Nat.zero_le _⟩, ⟨default_sound.1, default_sound, ?_, ?_⟩, ?_,
    poolSound_pending (poolSound_run reset_poolSound .sampling) _, ?_⟩
  · intro x h
    cases h
  · intro w h
    cases h
  · have h : ∀ m, (running.mic m).out.generator ≠ 0#16 := by decide +kernel
    exact h
  · exact frameEnd_step running (by decide +kernel)

end Sys2Proof.Tests
end

section
/-! What a request's reply leaves of the link, for every block that does not touch the link itself (R172 to R174); then
LAYOUT.GET, PARAM.SET and PARAM.GET. -/

namespace Sys2Proof.Machine

/-! ## Replies -/

@[simp] theorem Status.byte_ok : Status.ok.byte = 0#8 := rfl

/-- Where the block left the link alone, filling the slots is the reply of its payload and nothing else of the link. -/
theorem State.fillSlots_repliedTo (s : State) (f : Frame) (answer : Answer) (h : answer.2.link = s.link) :
    s.repliedTo f answer.1 (State.fillSlots f answer) := by
  simp only [State.repliedTo, State.fillSlots, State.modLink, replyTo, h]

/-- Where the block left the state, the reply changes the link alone. -/
theorem State.fillSlots_keeps (s : State) (f : Frame) (answer : Answer) (h : answer.2 = s) :
    State.fillSlots f answer = { s with link := (State.fillSlots f answer).link } := by
  subst h
  exact (State.fillSlots_frame f answer).1

/-- The engine state as one byte of a reply. -/
theorem byteOf_engineCode (e : EngineState) : byteOf e.code = if e = .parked then 0#8 else 1#8 := by
  cases e <;> rfl

/-! ## LAYOUT.GET (R154) -/

/-- LAYOUT.GET's answer. -/
def State.layoutGetAnswer (s : State) : Answer :=
  answerOk (byteOf s.engine.code :: (s.layout.bytes ++ s.counterBytes)) s

theorem exec_layoutGet_accepted (tag : Byte) (s : State) (h : s.accepting) :
    exec (.layoutGet tag) s = .next (State.fillSlots ⟨0x0B#8, tag, []⟩ s.layoutGetAnswer) :=
  congrArg Host.Outcome.next (State.request_accepted _ _ _ s rfl h rfl)

theorem State.layoutGetAnswer_bytes (s : State) :
    s.layoutGetAnswer.1 =
      [0#8, if s.engine = .parked then 0#8 else 1#8, byteOf s.layout.mics, byteOf s.layout.refs] ++
        leBytes 8 s.layout.mask.toNat ++ [byteOf s.layout.initialSegs] ++ le4 s.frameCounter.toNat := by
  simp [State.layoutGetAnswer, answerOk, byteOf_engineCode, Layout.bytes, State.counterBytes]

/-- Settles O15: the block answers R154's bytes and leaves the state to the reply. -/
theorem layoutGetReturnsTheLayout : Obligations.LayoutGetReturnsTheLayout := by
  intro tag s h
  refine ⟨_, exec_layoutGet_accepted tag s h, s.fillSlots_keeps _ _ rfl, ?_⟩
  rw [← s.layoutGetAnswer_bytes]
  exact s.fillSlots_repliedTo _ _ rfl

/-! ## A parameter stored (Table 9-1) -/

/-- Every range of Table 9-1 holds a value. -/
theorem paramRange_le {id lo hi : Nat} (h : paramRange id = some (lo, hi)) : lo ≤ hi := by
  unfold paramRange at h
  split at h <;> simp at h <;> omega

/-- The 20 values of a set in id order (R156). -/
def Params.values (p : Params) : List Nat := (List.range 20).map p.value

theorem Params.value_eq_values_getD (p : Params) (k : Nat) : p.value k = p.values.getD k 0 := by
  by_cases h : k < 20
  · simp [Params.values, h]
  · obtain ⟨n, rfl⟩ := Nat.exists_eq_add_of_le' (Nat.le_of_not_lt h)
    rfl

/-- Sets whose values differ at one id at most agree at every other. -/
theorem Params.value_of_values_set {p q : Params} {id v k : Nat} (h : q.values = p.values.set id v) (hk : k ≠ id) :
    q.value k = p.value k := by
  rw [q.value_eq_values_getD, p.value_eq_values_getD, h, List.getD_eq_getElem?_getD, List.getD_eq_getElem?_getD,
    List.getElem?_set_ne hk.symm]

/-- A numeric parameter reads as it was stored, and every other as before. -/
theorem Params.store_spec (p : Params) {id : Nat} (v : Nat) (h : (paramRange id).isSome) :
    (p.store id v).value id = v ∧ (p.store id v).values = p.values.set id v := by
  unfold paramRange at h
  split at h
  case h_18 => cases h
  all_goals exact ⟨rfl, rfl⟩

/-! ## What PARAM.SET makes of a set (R155) -/

/-- The nearer bound of a range, or the value within it. -/
theorem max_min_eq_nearer {lo hi : Nat} (v : Nat) (h : lo ≤ hi) :
    max lo (min hi v) = if v < lo then lo else if hi < v then hi else v := by
  split
  · omega
  · split <;> omega

/-- What PARAM.SET leaves of a set at an id: the value asked for there, and every other as before. -/
def Params.putAt (p : Params) (id v : Nat) (q : Params) : Prop := q.value id = v ∧ ∀ k, k ≠ id → q.value k = p.value k

theorem Params.putAt_of_values {p q : Params} {id v : Nat} (hv : q.value id = v) (h : q.values = p.values.set id v) :
    p.putAt id v q :=
  ⟨hv, fun _ hk => Params.value_of_values_set h hk⟩

/-- A numeric value is stored, clamped to the nearer bound. -/
theorem Params.write_numeric (p : Params) {id lo hi : Nat} (v : Nat) (h : paramRange id = some (lo, hi)) :
    ∃ q, p.write id v = some (q, if lo ≤ v ∧ v ≤ hi then .ok else .clamped) ∧
      p.putAt id (if v < lo then lo else if hi < v then hi else v) q := by
  obtain ⟨stored, others⟩ := p.store_spec (max lo (min hi v)) (Option.isSome_of_mem h)
  refine ⟨p.store id (max lo (min hi v)), by simp only [Params.write, h], ?_⟩
  rw [← max_min_eq_nearer v (paramRange_le h)]
  exact Params.putAt_of_values stored others

/-- A code in range, or a tap mask with bit 15, is stored as it stands. -/
theorem Params.write_coded (p : Params) {id v : Nat}
    (h : id = 16 ∧ v ≤ 1 ∨ id = 17 ∧ 0x8000 ≤ v ∧ v ≤ 0xFFFF ∨ id = 18 ∧ v ≤ 2) :
    ∃ q, p.write id v = some (q, .ok) ∧ p.putAt id v q := by
  obtain ⟨rfl, code⟩ | ⟨rfl, lo, hi⟩ | ⟨rfl, code⟩ := h
  · refine ⟨{ p with noiseFill := v == 1 }, by simp [Params.write, paramRange, code], ?_⟩
    interval_cases v <;> exact Params.putAt_of_values rfl rfl
  · have taps : (BitVec.ofNat 16 v).toNat = v := Nat.mod_eq_of_lt (Nat.lt_succ_of_le hi)
    refine ⟨{ p with noiseTaps := BitVec.ofNat 16 v }, by simp [Params.write, paramRange, lo, hi], ?_⟩
    exact Params.putAt_of_values taps (congrArg (p.values.set 17) taps)
  · interval_cases v <;> exact ⟨_, rfl, Params.putAt_of_values rfl rfl⟩

/-- An id above 19, a code out of range and a tap mask without bit 15 are refused. -/
theorem Params.write_refused (p : Params) {id v : Nat}
    (h : 19 < id ∨ id = 16 ∧ 1 < v ∨ id = 17 ∧ (v < 0x8000 ∨ 0xFFFF < v) ∨ id = 18 ∧ 2 < v) : p.write id v = none := by
  obtain above | ⟨rfl, code⟩ | ⟨rfl, taps⟩ | ⟨rfl, code⟩ := h
  · obtain ⟨n, rfl⟩ := Nat.exists_eq_add_of_le' above
    rfl
  · simp [Params.write, paramRange, code]
  · have out : ¬ (v ≤ 0xFFFF ∧ 0x8000 ≤ v) := by omega
    simp [Params.write, paramRange, out]
  · obtain ⟨n, rfl⟩ := Nat.exists_eq_add_of_le' code
    rfl

/-! ## PARAM.SET (R155) -/

theorem exec_paramSet_accepted (tag id : Byte) (value : BitVec 32) (s : State) (h : s.accepting) :
    exec (.paramSet tag id value) s =
      .next (State.fillSlots ⟨0x10#8, tag, id :: le4 value.toNat⟩ (s.paramSet id value)) :=
  congrArg Host.Outcome.next (State.request_accepted _ _ _ s rfl h rfl)

/-- A value the shadow set takes: the shadow alone is written, and the reply shows the value stored. -/
theorem exec_paramSet_written (tag id : Byte) (value : BitVec 32) (s : State) (h : s.accepting) {v : Nat} {q : Params}
    {st : Status} (hw : s.shadow.write id.toNat value.toNat = some (q, st)) (hq : s.shadow.putAt id.toNat v q) :
    ∃ t, exec (.paramSet tag id value) s = .next t ∧ t = { s with link := t.link, shadow := t.shadow } ∧
      t.shadow.value id.toNat = v ∧ (∀ k, k ≠ id.toNat → t.shadow.value k = s.shadow.value k) ∧
      s.repliedTo ⟨0x10#8, tag, id :: le4 value.toNat⟩ (st.byte :: id :: le4 v) t := by
  obtain ⟨stored, others⟩ := hq
  have answer : s.paramSet id value = (st.byte :: id :: le4 v, { s with shadow := q }) := by
    simp only [State.paramSet, hw, stored]
  refine ⟨_, exec_paramSet_accepted tag id value s h, ?_⟩
  rw [answer]
  exact ⟨rfl, stored, others, s.fillSlots_repliedTo _ _ rfl⟩

theorem exec_paramSet_refused (tag id : Byte) (value : BitVec 32) (s : State) (h : s.accepting)
    (hw : s.shadow.write id.toNat value.toNat = none) :
    ∃ t, exec (.paramSet tag id value) s = .next t ∧ t = { s with link := t.link } ∧
      s.repliedTo ⟨0x10#8, tag, id :: le4 value.toNat⟩ [3#8] t := by
  have answer : s.paramSet id value = refuse .refusedRange s := by simp only [State.paramSet, hw]
  refine ⟨_, exec_paramSet_accepted tag id value s h, ?_⟩
  rw [answer]
  exact ⟨rfl, s.fillSlots_repliedTo _ _ rfl⟩

/-- Settles O40: `Params.write` numeric, coded or refused, carried through the reply. -/
theorem paramSetWritesTheShadow : Obligations.ParamSetWritesTheShadow := by
  refine fun tag id value s h => ⟨fun lo hi range => ?_, fun coded => ?_, fun refused => ?_⟩
  · obtain ⟨q, written, put⟩ := s.shadow.write_numeric value.toNat range
    have status : (if lo ≤ value.toNat ∧ value.toNat ≤ hi then Status.ok else .clamped).byte =
        if lo ≤ value.toNat ∧ value.toNat ≤ hi then 0#8 else 1#8 := apply_ite Status.byte _ _ _
    exact status ▸ exec_paramSet_written tag id value s h written put
  · have coded' : id.toNat = 16 ∧ value.toNat ≤ 1 ∨ id.toNat = 17 ∧ 0x8000 ≤ value.toNat ∧ value.toNat ≤ 0xFFFF ∨
        id.toNat = 18 ∧ value.toNat ≤ 2 := by
      simpa [← BitVec.toNat_inj] using coded
    obtain ⟨q, written, put⟩ := s.shadow.write_coded coded'
    exact exec_paramSet_written tag id value s h written put
  · refine exec_paramSet_refused tag id value s h (s.shadow.write_refused ?_)
    simpa [← BitVec.toNat_inj] using refused

/-! ## PARAM.GET (R156) -/

theorem exec_paramGet_accepted (tag selector : Byte) (s : State) (h : s.accepting) :
    exec (.paramGet tag selector) s = .next (State.fillSlots ⟨0x11#8, tag, [selector]⟩ (s.paramGet selector)) :=
  congrArg Host.Outcome.next (State.request_accepted _ _ _ s rfl h rfl)

/-- The set a selector names. -/
def State.selects (s : State) (selector : Byte) (p : Params) : Prop :=
  selector = 0#8 ∧ p = s.shadow ∨ selector = 1#8 ∧ p = s.active ∨
    selector = 2#8 ∧ ∃ x, s.staged = some x ∧ p = x.params

theorem State.paramGet_selected {s : State} {selector : Byte} {p : Params} (h : s.selects selector p) :
    s.paramGet selector = answerOk (s.paramBytes selector p) s := by
  obtain ⟨rfl, rfl⟩ | ⟨rfl, rfl⟩ | ⟨rfl, x, staged, rfl⟩ := h
  · rfl
  · rfl
  · simp [State.paramGet, staged]

theorem State.paramGet_unstaged {s : State} (h : s.staged = none) : s.paramGet 2#8 = refuse .refusedState s := by
  simp [State.paramGet, h]

theorem State.paramGet_outOfRange (s : State) {selector : Byte} (h : 2 < selector.toNat) :
    s.paramGet selector = refuse .refusedRange s := by
  obtain ⟨n, hn⟩ := Nat.exists_eq_add_of_le' h
  simp only [State.paramGet, hn]

/-- Whatever is selected, PARAM.GET's block leaves the state. -/
theorem State.paramGet_state (s : State) (selector : Byte) : (s.paramGet selector).2 = s := by
  unfold State.paramGet
  split
  · rfl
  · rfl
  · split <;> rfl
  · rfl

theorem State.paramBytes_eq (s : State) (selector : Byte) (p : Params) :
    s.paramBytes selector p =
      selector :: ((List.range 20).flatMap (fun id => le4 (p.value id)) ++
        [if s.staged = none then 0#8 else 1#8, byteOf s.countdown, if s.engine = .parked then 0#8 else 1#8]) := by
  have flag : flagByte s.staged.isSome = if s.staged = none then 0#8 else 1#8 := by
    cases s.staged <;> rfl
  rw [State.paramBytes, Params.bytes, flag, byteOf_engineCode]

/-- Settles O41: `State.paramGet` by selector, carried through the reply. -/
theorem paramGetReturnsASet : Obligations.ParamGetReturnsASet := by
  intro tag selector s h
  have replied := s.fillSlots_repliedTo ⟨0x11#8, tag, [selector]⟩ (s.paramGet selector)
    (congrArg State.link (s.paramGet_state selector))
  refine ⟨_, exec_paramGet_accepted tag selector s h, s.fillSlots_keeps _ _ (s.paramGet_state selector),
    fun above => ?_, ?_, fun p selected => ?_⟩
  · rwa [s.paramGet_outOfRange above] at replied ⊢
  · rintro rfl unstaged
    rwa [State.paramGet_unstaged unstaged] at replied ⊢
  · rw [State.paramGet_selected selected] at replied ⊢
    rwa [← s.paramBytes_eq]

end Sys2Proof.Machine
end

section
/-! Chapter 11's reports and faults, the requests among them: IDENT (R175), ATTN (R177), NOTIFY.SET (R178) and FAULT.SET
(R180). -/

namespace Sys2Proof.Machine

/-! ## The answer REFUSED_RANGE (R174) -/

/-- A request that its block refuses for a value out of range changes the link alone, by the reply of that status. -/
theorem exec_refusedRange {i : Instr} {f : Frame} {answer : Answer} {s : State}
    (accepted : exec i s = .next (State.fillSlots f answer)) (refused : answer = refuse .refusedRange s) :
    ∃ t, exec i s = .next t ∧ t = { s with link := t.link } ∧ s.repliedTo f [3#8] t := by
  subst refused
  exact ⟨_, accepted, rfl, s.fillSlots_repliedTo f (refuse .refusedRange s) rfl⟩

/-! ## NOTIFY.SET (R178) -/

/-- The bits NOTIFY.SET's test looks at. -/
theorem above_bit9_getLsbD {k : Nat} (h : k < 16) : (0xFC00#16).getLsbD k = decide (10 ≤ k) := by
  revert k
  decide

theorem above_bit9_clear_iff (mask : BitVec 16) :
    mask &&& 0xFC00#16 = 0#16 ↔ ∀ k, 10 ≤ k → mask.getLsbD k = false := by
  constructor
  · intro h k above
    by_cases inside : k < 16
    · have bit : (mask &&& 0xFC00#16).getLsbD k = false := by rw [h, BitVec.getLsbD_zero]
      rwa [BitVec.getLsbD_and, above_bit9_getLsbD inside, decide_eq_true above, Bool.and_true] at bit
    · exact BitVec.getLsbD_of_ge mask k (Nat.le_of_not_lt inside)
  · intro h
    refine BitVec.eq_of_getLsbD_eq fun k inside => ?_
    rw [BitVec.getLsbD_and, above_bit9_getLsbD inside, BitVec.getLsbD_zero]
    by_cases above : 10 ≤ k
    · rw [h k above, Bool.false_and]
    · rw [decide_eq_false above, Bool.and_false]

/-- The PENDING report's condition fails: no unmasked flag is set, or the queue is full (R176). -/
theorem Link.reportPending_still {l : Link} (frameCounter : BitVec 32)
    (h : l.flags &&& ~~~l.masks = 0#16 ∨ 32 ≤ l.reports.length) : l.reportPending frameCounter = l := by
  refine if_neg fun ⟨room, unmasked⟩ => ?_
  exact h.elim unmasked (Nat.not_le_of_lt room)

/-- The PENDING report takes the unmasked flags with it (R176). -/
theorem Link.reportPending_queued {l : Link} (frameCounter : BitVec 32) (unmasked : l.flags &&& ~~~l.masks ≠ 0#16)
    (room : l.reports.length < 32) :
    l.reportPending frameCounter =
      { l with
        reports := l.reports ++ [⟨0x7F#8, 0#8, le2 (l.flags &&& ~~~l.masks).toNat ++ le4 frameCounter.toNat⟩]
        flags := l.flags &&& l.masks } :=
  if_pos ⟨room, unmasked⟩

@[simp] theorem Link.reportPending_masks (frameCounter : BitVec 32) (l : Link) :
    (l.reportPending frameCounter).masks = l.masks := by
  unfold Link.reportPending
  split <;> rfl

@[simp] theorem State.setMasks_masks (mask : BitVec 16) (s : State) : (s.setMasks mask).link.masks = mask :=
  Link.reportPending_masks _ _

theorem exec_notifySet_accepted (tag : Byte) (mask : BitVec 16) (s : State) (h : s.accepting) :
    exec (.notifySet tag mask) s =
      .next (State.fillSlots ⟨0x3B#8, tag, le2 mask.toNat⟩ (s.notifySet mask)) :=
  congrArg Host.Outcome.next (State.request_accepted _ _ _ s rfl h rfl)

theorem State.notifySet_refused (s : State) {mask : BitVec 16} (h : ∃ k, 10 ≤ k ∧ mask.getLsbD k = true) :
    s.notifySet mask = refuse .refusedRange s := by
  obtain ⟨k, above, set⟩ := h
  refine if_pos fun clear => ?_
  exact Bool.false_ne_true (((above_bit9_clear_iff mask).mp clear k above).symm.trans set)

theorem State.notifySet_taken (s : State) {mask : BitVec 16} (h : ∀ k, 10 ≤ k → mask.getLsbD k = false) :
    s.notifySet mask = answerOk (le2 mask.toNat ++ le2 (s.setMasks mask).link.flags.toNat) (s.setMasks mask) := by
  have clear := (above_bit9_clear_iff mask).mpr h
  simp [State.notifySet, clear]

/-- Settles O16: the mask's range decides between the refusal and `State.setMasks`, whose PENDING report is
`Link.reportPending` of the masks replaced. -/
theorem notifySetReplacesTheMasks : Obligations.NotifySetReplacesTheMasks := by
  refine fun tag mask s h => ⟨fun above => ?_, fun below => ?_⟩
  · exact exec_refusedRange (exec_notifySet_accepted tag mask s h) (s.notifySet_refused above)
  · have accepted := exec_notifySet_accepted tag mask s h
    rw [s.notifySet_taken below] at accepted
    refine ⟨_, accepted, rfl, s.setMasks_masks mask, rfl, fun still => ?_, fun unmasked room => ?_⟩
    · have link : (s.setMasks mask).link = { s.link with masks := mask } :=
        Link.reportPending_still (l := { s.link with masks := mask }) s.frameCounter still
      exact ⟨congrArg (·.reports) link, congrArg (·.flags) link⟩
    · have link := Link.reportPending_queued (l := { s.link with masks := mask }) s.frameCounter unmasked room
      exact ⟨congrArg (·.flags) link, congrArg (·.reports) link⟩

/-! ## Fault kinds and their codes (Table 11-5) -/

@[simp] theorem FaultKind.ofCode_code (k : FaultKind) : FaultKind.ofCode k.code.val = some k := by
  cases k <;> rfl

theorem FaultKind.code_of_ofCode {n : Nat} {k : FaultKind} (h : FaultKind.ofCode n = some k) : k.code.val = n := by
  unfold FaultKind.ofCode at h
  split at h <;> cases h <;> rfl

theorem FaultKind.code_injective : Function.Injective FaultKind.code := by
  intro a b h
  have codes : FaultKind.ofCode a.code.val = FaultKind.ofCode b.code.val := by rw [h]
  simpa using codes

/-- A kind's code fits its byte. -/
theorem byteOf_code_toNat (k : FaultKind) : (byteOf k.code.val).toNat = k.code.val := by
  have below := k.code.isLt
  exact Nat.mod_eq_of_lt (by omega)

/-! ## One entry of the fault table changed -/

@[simp] theorem State.faultEntry_modFault_same (k : FaultKind) (f : FaultEntry → FaultEntry) (s : State) :
    (s.modFault k f).faultEntry k = f (s.faultEntry k) :=
  tablePut_get_self s.link.faults k.code _

theorem State.faultEntry_modFault_other {k k' : FaultKind} (f : FaultEntry → FaultEntry) (s : State) (h : k' ≠ k) :
    (s.modFault k f).faultEntry k' = s.faultEntry k' :=
  tablePut_get_ne s.link.faults _ (FaultKind.code_injective.ne h)

/-! ## FAULT.SET (R180) -/

theorem exec_faultSet_accepted (tag kind maskValue severity : Byte) (s : State) (h : s.accepting) :
    exec (.faultSet tag kind maskValue severity) s =
      .next (State.fillSlots ⟨0x3A#8, tag, [kind, maskValue, severity]⟩ (s.faultSet kind maskValue severity)) :=
  congrArg Host.Outcome.next (State.request_accepted _ _ _ s rfl h rfl)

theorem faultSetAccepted_iff (k : FaultKind) (maskValue severity : Byte) :
    faultSetAccepted k maskValue severity = true ↔
      maskValue.toNat ≤ 1 ∧ (severity = 0#8 ∨ severity = 1#8 ∧ k.code.val ≤ 5) := by
  simp [faultSetAccepted, FaultKind.micScoped]

theorem State.faultSet_taken (s : State) {k : FaultKind} {maskValue severity : Byte} (hm : maskValue.toNat ≤ 1)
    (hs : severity = 0#8 ∨ severity = 1#8 ∧ k.code.val ≤ 5) :
    s.faultSet (byteOf k.code.val) maskValue severity =
      answerOk (byteOf k.code.val :: ((s.modFault k (FaultEntry.set maskValue severity)).faultEntry k).bytes)
        (s.modFault k (FaultEntry.set maskValue severity)) := by
  have taken := (faultSetAccepted_iff k maskValue severity).mpr ⟨hm, hs⟩
  simp only [State.faultSet, byteOf_code_toNat, FaultKind.ofCode_code, taken, if_true]

/-- No kind takes the values R180 refuses, and above code 10 there is no kind. -/
theorem State.faultSet_refused (s : State) {kind maskValue severity : Byte}
    (h : 10 < kind.toNat ∨ 1 < maskValue.toNat ∨ 1 < severity.toNat ∨ 5 < kind.toNat ∧ severity = 1#8) :
    s.faultSet kind maskValue severity = refuse .refusedRange s := by
  unfold State.faultSet
  split
  case h_1 k named =>
    have code := FaultKind.code_of_ofCode named
    have below := k.code.isLt
    refine if_neg fun taken => ?_
    obtain ⟨hm, hs⟩ := (faultSetAccepted_iff k maskValue severity).mp taken
    obtain noKind | mask | level | ⟨device, rfl⟩ := h
    · omega
    · omega
    · obtain rfl | ⟨rfl, -⟩ := hs <;> exact absurd level (by decide)
    · obtain advisory | ⟨-, micKind⟩ := hs
      · exact absurd advisory (by decide)
      · omega
  case h_2 => rfl

/-- Settles O17: `State.faultSet` writes the one entry, or refuses. -/
theorem faultSetReplacesMaskAndSeverity : Obligations.FaultSetReplacesMaskAndSeverity := by
  refine fun tag maskValue severity s h => ⟨fun k hm hs => ?_, fun kind out => ?_⟩
  · have accepted := exec_faultSet_accepted tag (byteOf k.code.val) maskValue severity s h
    rw [s.faultSet_taken hm hs] at accepted
    exact ⟨_, accepted, rfl, s.faultEntry_modFault_same k _, fun k' hk => s.faultEntry_modFault_other _ hk, rfl, rfl, rfl⟩
  · exact exec_refusedRange (exec_faultSet_accepted tag kind maskValue severity s h) (s.faultSet_refused out)

/-! ## ATTN (R177) -/

theorem State.attn_iff (s : State) : s.attn = true ↔ s.link.reply ≠ none ∨ s.link.reports ≠ [] := by
  simp [State.attn, Option.isSome_iff_ne_none]

/-- ATTN does not depend on what SPI_SDO carried. -/
theorem State.attn_modLink_sdo (sdo : List Byte) (s : State) : (s.modLink fun l => { l with sdo := sdo }).attn = s.attn :=
  rfl

/-- After a reset both the reply slot and the report queue are empty (R161, R183). -/
theorem State.powerOn_attn (s : State) : s.powerOn.attn = false := rfl

theorem leBytes_length (n x : Nat) : (leBytes n x).length = n := by
  induction n generalizing x with
  | zero => rfl
  | succ n ih => simp [leBytes, ih]

/-- A frame is its payload and eight bytes more (Table 11-1). -/
theorem encodeFrame_length (flags : Byte) (f : Frame) : (encodeFrame flags f).length = 8 + f.payload.length := by
  simp only [encodeFrame, frameBody, le2, be2, leBytes_length, List.length_append, List.length_cons, List.length_nil]
  omega

theorem Link.restarting_of_reply {l : Link} {f : Frame} (reply : l.reply = some f) (kind : f.kind = 0x82#8) :
    l.restarting = true := by
  simp [Link.restarting, reply, kind]

theorem Link.outboundBytes_length_of_reply {l : Link} {f : Frame} (reply : l.reply = some f) :
    l.outboundBytes.length = 8 + f.payload.length := by
  have sent : l.outbound = f := by simp [Link.outbound, reply]
  rw [Link.outboundBytes, sent, encodeFrame_length]

theorem exec_restartCompletion_restarting (s : State) (h : s.link.restarting = true) :
    exec .restartCompletion s = .next s.powerOn :=
  if_pos h

/-- A READ of the whole of RESTART's reply brings the power-on state, but for what SPI_SDO carried (R160). -/
theorem exec_read_restarting {n : Nat} {s : State} (h : s.link.restarting = true)
    (whole : s.link.outboundBytes.length ≤ n) :
    exec (.read n) s = .next (s.powerOn.modLink fun l => { l with sdo := s.link.sdoBytes n }) :=
  (if_neg (Nat.not_lt_of_le whole)).trans (if_pos h)

/-- Settles O12: ATTN is read off slot and queue, and each reset ends in the power-on state, SPI_SDO aside. -/
theorem attnFollowsSlotAndQueue : Obligations.AttnFollowsSlotAndQueue := by
  refine ⟨State.attn_iff, ?_, ?_⟩
  · rintro s t (reset | reset) <;> cases reset <;> exact s.powerOn_attn
  · rintro s t f n reply kind (completed | ⟨whole, carried⟩)
    all_goals have restarting := Link.restarting_of_reply reply kind
    · cases (exec_restartCompletion_restarting s restarting).symm.trans completed
      exact s.powerOn_attn
    · rw [← Link.outboundBytes_length_of_reply reply] at whole
      cases (exec_read_restarting restarting whole).symm.trans carried
      exact (s.powerOn.attn_modLink_sdo _).trans s.powerOn_attn

/-! ## IDENT (R175) -/

theorem exec_ident_accepted (tag : Byte) (s : State) (h : s.accepting) :
    exec (.ident tag) s = .next (State.fillSlots ⟨0x01#8, tag, []⟩ (answerOk s.identBytes s)) :=
  congrArg Host.Outcome.next (State.request_accepted _ _ _ s rfl h rfl)

theorem State.identBytes_eq (s : State) :
    s.identBytes =
      [0xA4#8, 1#8, 0x00#8, 0x0C#8, 0x00#8, 0x08#8, 16#8, 4#8, 4#8, if s.engine = .parked then 0#8 else 1#8] ++
        le4 s.frameCounter.toNat := by
  have segments : le2 Config.poolSize = [0x00#8, 0x0C#8] := rfl
  have active : le2 Config.capacity = [0x00#8, 0x08#8] := rfl
  rw [State.identBytes, segments, active, byteOf_engineCode]
  rfl

/-- Settles O14: IDENT answers `State.identBytes` and leaves the state to the reply. -/
theorem identReturnsTheFixedFields : Obligations.IdentReturnsTheFixedFields := by
  intro tag s h
  have replied := s.fillSlots_repliedTo ⟨0x01#8, tag, []⟩ (answerOk s.identBytes s) rfl
  refine ⟨_, exec_ident_accepted tag s h, s.fillSlots_keeps _ _ rfl, ?_⟩
  rwa [answerOk, s.identBytes_eq] at replied ⊢

end Sys2Proof.Machine
end
